-- ==== Sys2Proof/Word.lean ====
section
/-! DEFINITION. The two word types of the core: `u8` and `u16` of rule R7 (00_scope.md). All arithmetic on them wraps, modulo 0x100 and 0x10000 (R8, R15, R89), which is what `BitVec` addition and subtraction do. -/

namespace Sys2Proof

/-- `u8` (R7): the width of A, X, Y, SP, P and of every memory cell (R6). -/
abbrev Byte := BitVec 8

/-- `u16` (R7): the width of PC and of every address (R6). -/
abbrev Word := BitVec 16

end Sys2Proof
end

