-- ==== Sys2Proof/Syntax.lean ====
section
/-! DEFINITION. The instructions: one constructor per valid row of spec/opcode_table.json (R53: 151 documented opcode bytes; R54: the alias 0xEB), with the row's operand byte or word (R51, R52), and `invalid op` for the 104 rows without an instruction (R55). The operand letters are those of the row: `v` an immediate, `z` a zero-page address or pointer, `r` a relative offset, `a` an absolute address. -/

namespace Sys2Proof

/-- An instruction as decoded: the row of the decode table (R53) and its operand. -/
inductive Instr where
  /-- `LDA #v`, opcode 0xA9 (R73, mode R58). -/
  | ldaImm (v : Byte)
  /-- `LDA z`, opcode 0xA5 (R73, mode R59). -/
  | ldaZp (z : Byte)
  /-- `LDA z,X`, opcode 0xB5 (R73, mode R60). -/
  | ldaZpX (z : Byte)
  /-- `LDA a`, opcode 0xAD (R73, mode R63). -/
  | ldaAbs (a : Word)
  /-- `LDA a,X`, opcode 0xBD (R73, mode R64). -/
  | ldaAbsX (a : Word)
  /-- `LDA a,Y`, opcode 0xB9 (R73, mode R65). -/
  | ldaAbsY (a : Word)
  /-- `LDA (z,X)`, opcode 0xA1 (R73, mode R67). -/
  | ldaIndX (z : Byte)
  /-- `LDA (z),Y`, opcode 0xB1 (R73, mode R68). -/
  | ldaIndY (z : Byte)
  /-- `LDX #v`, opcode 0xA2 (R74, mode R58). -/
  | ldxImm (v : Byte)
  /-- `LDX z`, opcode 0xA6 (R74, mode R59). -/
  | ldxZp (z : Byte)
  /-- `LDX z,Y`, opcode 0xB6 (R74, mode R61). -/
  | ldxZpY (z : Byte)
  /-- `LDX a`, opcode 0xAE (R74, mode R63). -/
  | ldxAbs (a : Word)
  /-- `LDX a,Y`, opcode 0xBE (R74, mode R65). -/
  | ldxAbsY (a : Word)
  /-- `LDY #v`, opcode 0xA0 (R75, mode R58). -/
  | ldyImm (v : Byte)
  /-- `LDY z`, opcode 0xA4 (R75, mode R59). -/
  | ldyZp (z : Byte)
  /-- `LDY z,X`, opcode 0xB4 (R75, mode R60). -/
  | ldyZpX (z : Byte)
  /-- `LDY a`, opcode 0xAC (R75, mode R63). -/
  | ldyAbs (a : Word)
  /-- `LDY a,X`, opcode 0xBC (R75, mode R64). -/
  | ldyAbsX (a : Word)
  /-- `STA z`, opcode 0x85 (R76, mode R59). -/
  | staZp (z : Byte)
  /-- `STA z,X`, opcode 0x95 (R76, mode R60). -/
  | staZpX (z : Byte)
  /-- `STA a`, opcode 0x8D (R76, mode R63). -/
  | staAbs (a : Word)
  /-- `STA a,X`, opcode 0x9D (R76, mode R64). -/
  | staAbsX (a : Word)
  /-- `STA a,Y`, opcode 0x99 (R76, mode R65). -/
  | staAbsY (a : Word)
  /-- `STA (z,X)`, opcode 0x81 (R76, mode R67). -/
  | staIndX (z : Byte)
  /-- `STA (z),Y`, opcode 0x91 (R76, mode R68). -/
  | staIndY (z : Byte)
  /-- `STX z`, opcode 0x86 (R77, mode R59). -/
  | stxZp (z : Byte)
  /-- `STX z,Y`, opcode 0x96 (R77, mode R61). -/
  | stxZpY (z : Byte)
  /-- `STX a`, opcode 0x8E (R77, mode R63). -/
  | stxAbs (a : Word)
  /-- `STY z`, opcode 0x84 (R78, mode R59). -/
  | styZp (z : Byte)
  /-- `STY z,X`, opcode 0x94 (R78, mode R60). -/
  | styZpX (z : Byte)
  /-- `STY a`, opcode 0x8C (R78, mode R63). -/
  | styAbs (a : Word)
  /-- `TAX`, opcode 0xAA (R79, mode R56). -/
  | tax
  /-- `TAY`, opcode 0xA8 (R80, mode R56). -/
  | tay
  /-- `TXA`, opcode 0x8A (R81, mode R56). -/
  | txa
  /-- `TYA`, opcode 0x98 (R82, mode R56). -/
  | tya
  /-- `TSX`, opcode 0xBA (R83, mode R56). -/
  | tsx
  /-- `TXS`, opcode 0x9A (R84, mode R56). -/
  | txs
  /-- `PHA`, opcode 0x48 (R85, mode R56). -/
  | pha
  /-- `PHP`, opcode 0x08 (R86, mode R56). -/
  | php
  /-- `PLA`, opcode 0x68 (R87, mode R56). -/
  | pla
  /-- `PLP`, opcode 0x28 (R88, mode R56). -/
  | plp
  /-- `ADC #v`, opcode 0x69 (R94, mode R58). -/
  | adcImm (v : Byte)
  /-- `ADC z`, opcode 0x65 (R94, mode R59). -/
  | adcZp (z : Byte)
  /-- `ADC z,X`, opcode 0x75 (R94, mode R60). -/
  | adcZpX (z : Byte)
  /-- `ADC a`, opcode 0x6D (R94, mode R63). -/
  | adcAbs (a : Word)
  /-- `ADC a,X`, opcode 0x7D (R94, mode R64). -/
  | adcAbsX (a : Word)
  /-- `ADC a,Y`, opcode 0x79 (R94, mode R65). -/
  | adcAbsY (a : Word)
  /-- `ADC (z,X)`, opcode 0x61 (R94, mode R67). -/
  | adcIndX (z : Byte)
  /-- `ADC (z),Y`, opcode 0x71 (R94, mode R68). -/
  | adcIndY (z : Byte)
  /-- `SBC #v`, opcode 0xE9 (R95, mode R58). -/
  | sbcImm (v : Byte)
  /-- `SBC z`, opcode 0xE5 (R95, mode R59). -/
  | sbcZp (z : Byte)
  /-- `SBC z,X`, opcode 0xF5 (R95, mode R60). -/
  | sbcZpX (z : Byte)
  /-- `SBC a`, opcode 0xED (R95, mode R63). -/
  | sbcAbs (a : Word)
  /-- `SBC a,X`, opcode 0xFD (R95, mode R64). -/
  | sbcAbsX (a : Word)
  /-- `SBC a,Y`, opcode 0xF9 (R95, mode R65). -/
  | sbcAbsY (a : Word)
  /-- `SBC (z,X)`, opcode 0xE1 (R95, mode R67). -/
  | sbcIndX (z : Byte)
  /-- `SBC (z),Y`, opcode 0xF1 (R95, mode R68). -/
  | sbcIndY (z : Byte)
  /-- `SBC #v`, opcode 0xEB (R95, mode R58). -/
  | sbcImmEB (v : Byte)
  /-- `CMP #v`, opcode 0xC9 (R97, mode R58). -/
  | cmpImm (v : Byte)
  /-- `CMP z`, opcode 0xC5 (R97, mode R59). -/
  | cmpZp (z : Byte)
  /-- `CMP z,X`, opcode 0xD5 (R97, mode R60). -/
  | cmpZpX (z : Byte)
  /-- `CMP a`, opcode 0xCD (R97, mode R63). -/
  | cmpAbs (a : Word)
  /-- `CMP a,X`, opcode 0xDD (R97, mode R64). -/
  | cmpAbsX (a : Word)
  /-- `CMP a,Y`, opcode 0xD9 (R97, mode R65). -/
  | cmpAbsY (a : Word)
  /-- `CMP (z,X)`, opcode 0xC1 (R97, mode R67). -/
  | cmpIndX (z : Byte)
  /-- `CMP (z),Y`, opcode 0xD1 (R97, mode R68). -/
  | cmpIndY (z : Byte)
  /-- `CPX #v`, opcode 0xE0 (R98, mode R58). -/
  | cpxImm (v : Byte)
  /-- `CPX z`, opcode 0xE4 (R98, mode R59). -/
  | cpxZp (z : Byte)
  /-- `CPX a`, opcode 0xEC (R98, mode R63). -/
  | cpxAbs (a : Word)
  /-- `CPY #v`, opcode 0xC0 (R99, mode R58). -/
  | cpyImm (v : Byte)
  /-- `CPY z`, opcode 0xC4 (R99, mode R59). -/
  | cpyZp (z : Byte)
  /-- `CPY a`, opcode 0xCC (R99, mode R63). -/
  | cpyAbs (a : Word)
  /-- `INC z`, opcode 0xE6 (R100, mode R59). -/
  | incZp (z : Byte)
  /-- `INC z,X`, opcode 0xF6 (R100, mode R60). -/
  | incZpX (z : Byte)
  /-- `INC a`, opcode 0xEE (R100, mode R63). -/
  | incAbs (a : Word)
  /-- `INC a,X`, opcode 0xFE (R100, mode R64). -/
  | incAbsX (a : Word)
  /-- `DEC z`, opcode 0xC6 (R101, mode R59). -/
  | decZp (z : Byte)
  /-- `DEC z,X`, opcode 0xD6 (R101, mode R60). -/
  | decZpX (z : Byte)
  /-- `DEC a`, opcode 0xCE (R101, mode R63). -/
  | decAbs (a : Word)
  /-- `DEC a,X`, opcode 0xDE (R101, mode R64). -/
  | decAbsX (a : Word)
  /-- `INX`, opcode 0xE8 (R102, mode R56). -/
  | inx
  /-- `INY`, opcode 0xC8 (R103, mode R56). -/
  | iny
  /-- `DEX`, opcode 0xCA (R104, mode R56). -/
  | dex
  /-- `DEY`, opcode 0x88 (R105, mode R56). -/
  | dey
  /-- `AND #v`, opcode 0x29 (R106, mode R58). -/
  | andImm (v : Byte)
  /-- `AND z`, opcode 0x25 (R106, mode R59). -/
  | andZp (z : Byte)
  /-- `AND z,X`, opcode 0x35 (R106, mode R60). -/
  | andZpX (z : Byte)
  /-- `AND a`, opcode 0x2D (R106, mode R63). -/
  | andAbs (a : Word)
  /-- `AND a,X`, opcode 0x3D (R106, mode R64). -/
  | andAbsX (a : Word)
  /-- `AND a,Y`, opcode 0x39 (R106, mode R65). -/
  | andAbsY (a : Word)
  /-- `AND (z,X)`, opcode 0x21 (R106, mode R67). -/
  | andIndX (z : Byte)
  /-- `AND (z),Y`, opcode 0x31 (R106, mode R68). -/
  | andIndY (z : Byte)
  /-- `ORA #v`, opcode 0x09 (R107, mode R58). -/
  | oraImm (v : Byte)
  /-- `ORA z`, opcode 0x05 (R107, mode R59). -/
  | oraZp (z : Byte)
  /-- `ORA z,X`, opcode 0x15 (R107, mode R60). -/
  | oraZpX (z : Byte)
  /-- `ORA a`, opcode 0x0D (R107, mode R63). -/
  | oraAbs (a : Word)
  /-- `ORA a,X`, opcode 0x1D (R107, mode R64). -/
  | oraAbsX (a : Word)
  /-- `ORA a,Y`, opcode 0x19 (R107, mode R65). -/
  | oraAbsY (a : Word)
  /-- `ORA (z,X)`, opcode 0x01 (R107, mode R67). -/
  | oraIndX (z : Byte)
  /-- `ORA (z),Y`, opcode 0x11 (R107, mode R68). -/
  | oraIndY (z : Byte)
  /-- `EOR #v`, opcode 0x49 (R108, mode R58). -/
  | eorImm (v : Byte)
  /-- `EOR z`, opcode 0x45 (R108, mode R59). -/
  | eorZp (z : Byte)
  /-- `EOR z,X`, opcode 0x55 (R108, mode R60). -/
  | eorZpX (z : Byte)
  /-- `EOR a`, opcode 0x4D (R108, mode R63). -/
  | eorAbs (a : Word)
  /-- `EOR a,X`, opcode 0x5D (R108, mode R64). -/
  | eorAbsX (a : Word)
  /-- `EOR a,Y`, opcode 0x59 (R108, mode R65). -/
  | eorAbsY (a : Word)
  /-- `EOR (z,X)`, opcode 0x41 (R108, mode R67). -/
  | eorIndX (z : Byte)
  /-- `EOR (z),Y`, opcode 0x51 (R108, mode R68). -/
  | eorIndY (z : Byte)
  /-- `BIT z`, opcode 0x24 (R109, mode R59). -/
  | bitZp (z : Byte)
  /-- `BIT a`, opcode 0x2C (R109, mode R63). -/
  | bitAbs (a : Word)
  /-- `ASL z`, opcode 0x06 (R110, mode R59). -/
  | aslZp (z : Byte)
  /-- `ASL z,X`, opcode 0x16 (R110, mode R60). -/
  | aslZpX (z : Byte)
  /-- `ASL a`, opcode 0x0E (R110, mode R63). -/
  | aslAbs (a : Word)
  /-- `ASL a,X`, opcode 0x1E (R110, mode R64). -/
  | aslAbsX (a : Word)
  /-- `ASL A`, opcode 0x0A (R110, mode R57). -/
  | aslAcc
  /-- `LSR z`, opcode 0x46 (R111, mode R59). -/
  | lsrZp (z : Byte)
  /-- `LSR z,X`, opcode 0x56 (R111, mode R60). -/
  | lsrZpX (z : Byte)
  /-- `LSR a`, opcode 0x4E (R111, mode R63). -/
  | lsrAbs (a : Word)
  /-- `LSR a,X`, opcode 0x5E (R111, mode R64). -/
  | lsrAbsX (a : Word)
  /-- `LSR A`, opcode 0x4A (R111, mode R57). -/
  | lsrAcc
  /-- `ROL z`, opcode 0x26 (R112, mode R59). -/
  | rolZp (z : Byte)
  /-- `ROL z,X`, opcode 0x36 (R112, mode R60). -/
  | rolZpX (z : Byte)
  /-- `ROL a`, opcode 0x2E (R112, mode R63). -/
  | rolAbs (a : Word)
  /-- `ROL a,X`, opcode 0x3E (R112, mode R64). -/
  | rolAbsX (a : Word)
  /-- `ROL A`, opcode 0x2A (R112, mode R57). -/
  | rolAcc
  /-- `ROR z`, opcode 0x66 (R113, mode R59). -/
  | rorZp (z : Byte)
  /-- `ROR z,X`, opcode 0x76 (R113, mode R60). -/
  | rorZpX (z : Byte)
  /-- `ROR a`, opcode 0x6E (R113, mode R63). -/
  | rorAbs (a : Word)
  /-- `ROR a,X`, opcode 0x7E (R113, mode R64). -/
  | rorAbsX (a : Word)
  /-- `ROR A`, opcode 0x6A (R113, mode R57). -/
  | rorAcc
  /-- `JMP a`, opcode 0x4C (R114, mode R63). -/
  | jmpAbs (a : Word)
  /-- `JMP (a)`, opcode 0x6C (R114, mode R66). -/
  | jmpInd (a : Word)
  /-- `JSR a`, opcode 0x20 (R115, mode R63). -/
  | jsr (a : Word)
  /-- `RTS`, opcode 0x60 (R116, mode R56). -/
  | rts
  /-- `RTI`, opcode 0x40 (R117, mode R56). -/
  | rti
  /-- `BRK`, opcode 0x00 (R118, mode R56). -/
  | brk
  /-- `BPL r`, opcode 0x10 (R120, mode R62). -/
  | bpl (r : Byte)
  /-- `BMI r`, opcode 0x30 (R121, mode R62). -/
  | bmi (r : Byte)
  /-- `BVC r`, opcode 0x50 (R122, mode R62). -/
  | bvc (r : Byte)
  /-- `BVS r`, opcode 0x70 (R123, mode R62). -/
  | bvs (r : Byte)
  /-- `BCC r`, opcode 0x90 (R124, mode R62). -/
  | bcc (r : Byte)
  /-- `BCS r`, opcode 0xB0 (R125, mode R62). -/
  | bcs (r : Byte)
  /-- `BNE r`, opcode 0xD0 (R126, mode R62). -/
  | bne (r : Byte)
  /-- `BEQ r`, opcode 0xF0 (R127, mode R62). -/
  | beq (r : Byte)
  /-- `NOP`, opcode 0xEA (R128, mode R56). -/
  | nop
  /-- `CLC`, opcode 0x18 (R129, mode R56). -/
  | clc
  /-- `SEC`, opcode 0x38 (R130, mode R56). -/
  | sec
  /-- `CLI`, opcode 0x58 (R131, mode R56). -/
  | cli
  /-- `SEI`, opcode 0x78 (R132, mode R56). -/
  | sei
  /-- `CLD`, opcode 0xD8 (R133, mode R56). -/
  | cld
  /-- `SED`, opcode 0xF8 (R134, mode R56). -/
  | sed
  /-- `CLV`, opcode 0xB8 (R135, mode R56). -/
  | clv
  /-- A byte with no row in the decode table (R55): the step ends with `InvalidOpcode` (R137). -/
  | invalid (op : Byte)
  deriving DecidableEq, Repr

end Sys2Proof
end

