-- ==== Sys2Proof/Decode.lean ====
section
/-! DEFINITION. Decoding and encoding. The opcode map of R53 is written row by row as the spec prints it (row = high nibble, column = low nibble); a row's entry says how many operand bytes follow (R51) and which instruction they make (R52). Decoding is total on byte lists: it gives an instruction and the rest of the list, or says by name that operand bytes are missing. The map itself is the spec's general-knowledge passage G1: PRESUMED, unsafe, log entry 11. -/

namespace Sys2Proof

/-- `(hi << 8) | lo` (R7): the 16-bit quantity of two bytes. -/
def wordOf (hi lo : Byte) : Word := hi ++ lo

/-- Bits [15:8] of an address, `v >> 8` (R7). -/
def hiByte (w : Word) : Byte := w.extractLsb' 8 8

/-- Bits [7:0] of an address, `v & 0xFF` (R7). -/
def loByte (w : Word) : Byte := w.extractLsb' 0 8

/-- A decode-table row (R53): the operand bytes its addressing mode fetches (R51) and the instruction they make. -/
inductive Format where
  /-- No operand byte: implied and accumulator. -/
  | bare (i : Instr)
  /-- One operand byte: immediate, zero page, relative, (zp,X), (zp),Y. -/
  | one (f : Byte → Instr)
  /-- Two operand bytes, low byte first: absolute and indirect (R28). -/
  | two (f : Word → Instr)

/-- Row `0x` of the opcode map of R53. -/
def opcodeRow0 : List (Option Format) :=
  [ some (.bare .brk), some (.one .oraIndX), none, none,
    none, some (.one .oraZp), some (.one .aslZp), none,
    some (.bare .php), some (.one .oraImm), some (.bare .aslAcc), none,
    none, some (.two .oraAbs), some (.two .aslAbs), none ]

/-- Row `1x` of the opcode map of R53. -/
def opcodeRow1 : List (Option Format) :=
  [ some (.one .bpl), some (.one .oraIndY), none, none,
    none, some (.one .oraZpX), some (.one .aslZpX), none,
    some (.bare .clc), some (.two .oraAbsY), none, none,
    none, some (.two .oraAbsX), some (.two .aslAbsX), none ]

/-- Row `2x` of the opcode map of R53. -/
def opcodeRow2 : List (Option Format) :=
  [ some (.two .jsr), some (.one .andIndX), none, none,
    some (.one .bitZp), some (.one .andZp), some (.one .rolZp), none,
    some (.bare .plp), some (.one .andImm), some (.bare .rolAcc), none,
    some (.two .bitAbs), some (.two .andAbs), some (.two .rolAbs), none ]

/-- Row `3x` of the opcode map of R53. -/
def opcodeRow3 : List (Option Format) :=
  [ some (.one .bmi), some (.one .andIndY), none, none,
    none, some (.one .andZpX), some (.one .rolZpX), none,
    some (.bare .sec), some (.two .andAbsY), none, none,
    none, some (.two .andAbsX), some (.two .rolAbsX), none ]

/-- Row `4x` of the opcode map of R53. -/
def opcodeRow4 : List (Option Format) :=
  [ some (.bare .rti), some (.one .eorIndX), none, none,
    none, some (.one .eorZp), some (.one .lsrZp), none,
    some (.bare .pha), some (.one .eorImm), some (.bare .lsrAcc), none,
    some (.two .jmpAbs), some (.two .eorAbs), some (.two .lsrAbs), none ]

/-- Row `5x` of the opcode map of R53. -/
def opcodeRow5 : List (Option Format) :=
  [ some (.one .bvc), some (.one .eorIndY), none, none,
    none, some (.one .eorZpX), some (.one .lsrZpX), none,
    some (.bare .cli), some (.two .eorAbsY), none, none,
    none, some (.two .eorAbsX), some (.two .lsrAbsX), none ]

/-- Row `6x` of the opcode map of R53. -/
def opcodeRow6 : List (Option Format) :=
  [ some (.bare .rts), some (.one .adcIndX), none, none,
    none, some (.one .adcZp), some (.one .rorZp), none,
    some (.bare .pla), some (.one .adcImm), some (.bare .rorAcc), none,
    some (.two .jmpInd), some (.two .adcAbs), some (.two .rorAbs), none ]

/-- Row `7x` of the opcode map of R53. -/
def opcodeRow7 : List (Option Format) :=
  [ some (.one .bvs), some (.one .adcIndY), none, none,
    none, some (.one .adcZpX), some (.one .rorZpX), none,
    some (.bare .sei), some (.two .adcAbsY), none, none,
    none, some (.two .adcAbsX), some (.two .rorAbsX), none ]

/-- Row `8x` of the opcode map of R53. -/
def opcodeRow8 : List (Option Format) :=
  [ none, some (.one .staIndX), none, none,
    some (.one .styZp), some (.one .staZp), some (.one .stxZp), none,
    some (.bare .dey), none, some (.bare .txa), none,
    some (.two .styAbs), some (.two .staAbs), some (.two .stxAbs), none ]

/-- Row `9x` of the opcode map of R53. -/
def opcodeRow9 : List (Option Format) :=
  [ some (.one .bcc), some (.one .staIndY), none, none,
    some (.one .styZpX), some (.one .staZpX), some (.one .stxZpY), none,
    some (.bare .tya), some (.two .staAbsY), some (.bare .txs), none,
    none, some (.two .staAbsX), none, none ]

/-- Row `Ax` of the opcode map of R53. -/
def opcodeRowA : List (Option Format) :=
  [ some (.one .ldyImm), some (.one .ldaIndX), some (.one .ldxImm), none,
    some (.one .ldyZp), some (.one .ldaZp), some (.one .ldxZp), none,
    some (.bare .tay), some (.one .ldaImm), some (.bare .tax), none,
    some (.two .ldyAbs), some (.two .ldaAbs), some (.two .ldxAbs), none ]

/-- Row `Bx` of the opcode map of R53. -/
def opcodeRowB : List (Option Format) :=
  [ some (.one .bcs), some (.one .ldaIndY), none, none,
    some (.one .ldyZpX), some (.one .ldaZpX), some (.one .ldxZpY), none,
    some (.bare .clv), some (.two .ldaAbsY), some (.bare .tsx), none,
    some (.two .ldyAbsX), some (.two .ldaAbsX), some (.two .ldxAbsY), none ]

/-- Row `Cx` of the opcode map of R53. -/
def opcodeRowC : List (Option Format) :=
  [ some (.one .cpyImm), some (.one .cmpIndX), none, none,
    some (.one .cpyZp), some (.one .cmpZp), some (.one .decZp), none,
    some (.bare .iny), some (.one .cmpImm), some (.bare .dex), none,
    some (.two .cpyAbs), some (.two .cmpAbs), some (.two .decAbs), none ]

/-- Row `Dx` of the opcode map of R53. -/
def opcodeRowD : List (Option Format) :=
  [ some (.one .bne), some (.one .cmpIndY), none, none,
    none, some (.one .cmpZpX), some (.one .decZpX), none,
    some (.bare .cld), some (.two .cmpAbsY), none, none,
    none, some (.two .cmpAbsX), some (.two .decAbsX), none ]

/-- Row `Ex` of the opcode map of R53. -/
def opcodeRowE : List (Option Format) :=
  [ some (.one .cpxImm), some (.one .sbcIndX), none, none,
    some (.one .cpxZp), some (.one .sbcZp), some (.one .incZp), none,
    some (.bare .inx), some (.one .sbcImm), some (.bare .nop), some (.one .sbcImmEB),
    some (.two .cpxAbs), some (.two .sbcAbs), some (.two .incAbs), none ]

/-- Row `Fx` of the opcode map of R53. -/
def opcodeRowF : List (Option Format) :=
  [ some (.one .beq), some (.one .sbcIndY), none, none,
    none, some (.one .sbcZpX), some (.one .incZpX), none,
    some (.bare .sed), some (.two .sbcAbsY), none, none,
    none, some (.two .sbcAbsX), some (.two .incAbsX), none ]

/-- The opcode map of R53. -/
def opcodeMap : List (List (Option Format)) :=
  [ opcodeRow0, opcodeRow1, opcodeRow2, opcodeRow3,
    opcodeRow4, opcodeRow5, opcodeRow6, opcodeRow7,
    opcodeRow8, opcodeRow9, opcodeRowA, opcodeRowB,
    opcodeRowC, opcodeRowD, opcodeRowE, opcodeRowF ]

/-- `DECODE[op]` (R53, R69): the row of an opcode byte, or `none` for the 104 bytes of R55. -/
def decodeRow (op : Byte) : Option Format :=
  (opcodeMap.getD (op.toNat / 16) []).getD (op.toNat % 16) none

/-- Why a list of bytes is not decoded. -/
inductive DecodeError where
  /-- There is no byte. -/
  | empty
  /-- The opcode `op` asks for more operand bytes than the list holds. -/
  | truncated (op : Byte)
  deriving DecidableEq, Repr

/-- The instruction at the head of a list of bytes, and the rest of the list (R51, R53). -/
def decode : List Byte → Except DecodeError (Instr × List Byte)
  | [] => .error .empty
  | op :: rest =>
    match decodeRow op, rest with
    | none, _ => .ok (.invalid op, rest)
    | some (.bare i), _ => .ok (i, rest)
    | some (.one f), b :: rest' => .ok (f b, rest')
    | some (.two f), l :: h :: rest' => .ok (f (wordOf h l), rest')
    | some (.one _), [] => .error (.truncated op)
    | some (.two _), _ => .error (.truncated op)

/-- An opcode followed by a 16-bit operand, low byte first (R28, R51). -/
def encodeWord (op : Byte) (a : Word) : List Byte := [op, loByte a, hiByte a]

/-- The bytes of an instruction, written from the decode table of R53. -/
def encode : Instr → List Byte
  | .ldaImm v => [0xA9, v]
  | .ldaZp z => [0xA5, z]
  | .ldaZpX z => [0xB5, z]
  | .ldaAbs a => encodeWord 0xAD a
  | .ldaAbsX a => encodeWord 0xBD a
  | .ldaAbsY a => encodeWord 0xB9 a
  | .ldaIndX z => [0xA1, z]
  | .ldaIndY z => [0xB1, z]
  | .ldxImm v => [0xA2, v]
  | .ldxZp z => [0xA6, z]
  | .ldxZpY z => [0xB6, z]
  | .ldxAbs a => encodeWord 0xAE a
  | .ldxAbsY a => encodeWord 0xBE a
  | .ldyImm v => [0xA0, v]
  | .ldyZp z => [0xA4, z]
  | .ldyZpX z => [0xB4, z]
  | .ldyAbs a => encodeWord 0xAC a
  | .ldyAbsX a => encodeWord 0xBC a
  | .staZp z => [0x85, z]
  | .staZpX z => [0x95, z]
  | .staAbs a => encodeWord 0x8D a
  | .staAbsX a => encodeWord 0x9D a
  | .staAbsY a => encodeWord 0x99 a
  | .staIndX z => [0x81, z]
  | .staIndY z => [0x91, z]
  | .stxZp z => [0x86, z]
  | .stxZpY z => [0x96, z]
  | .stxAbs a => encodeWord 0x8E a
  | .styZp z => [0x84, z]
  | .styZpX z => [0x94, z]
  | .styAbs a => encodeWord 0x8C a
  | .tax => [0xAA]
  | .tay => [0xA8]
  | .txa => [0x8A]
  | .tya => [0x98]
  | .tsx => [0xBA]
  | .txs => [0x9A]
  | .pha => [0x48]
  | .php => [0x08]
  | .pla => [0x68]
  | .plp => [0x28]
  | .adcImm v => [0x69, v]
  | .adcZp z => [0x65, z]
  | .adcZpX z => [0x75, z]
  | .adcAbs a => encodeWord 0x6D a
  | .adcAbsX a => encodeWord 0x7D a
  | .adcAbsY a => encodeWord 0x79 a
  | .adcIndX z => [0x61, z]
  | .adcIndY z => [0x71, z]
  | .sbcImm v => [0xE9, v]
  | .sbcZp z => [0xE5, z]
  | .sbcZpX z => [0xF5, z]
  | .sbcAbs a => encodeWord 0xED a
  | .sbcAbsX a => encodeWord 0xFD a
  | .sbcAbsY a => encodeWord 0xF9 a
  | .sbcIndX z => [0xE1, z]
  | .sbcIndY z => [0xF1, z]
  | .sbcImmEB v => [0xEB, v]
  | .cmpImm v => [0xC9, v]
  | .cmpZp z => [0xC5, z]
  | .cmpZpX z => [0xD5, z]
  | .cmpAbs a => encodeWord 0xCD a
  | .cmpAbsX a => encodeWord 0xDD a
  | .cmpAbsY a => encodeWord 0xD9 a
  | .cmpIndX z => [0xC1, z]
  | .cmpIndY z => [0xD1, z]
  | .cpxImm v => [0xE0, v]
  | .cpxZp z => [0xE4, z]
  | .cpxAbs a => encodeWord 0xEC a
  | .cpyImm v => [0xC0, v]
  | .cpyZp z => [0xC4, z]
  | .cpyAbs a => encodeWord 0xCC a
  | .incZp z => [0xE6, z]
  | .incZpX z => [0xF6, z]
  | .incAbs a => encodeWord 0xEE a
  | .incAbsX a => encodeWord 0xFE a
  | .decZp z => [0xC6, z]
  | .decZpX z => [0xD6, z]
  | .decAbs a => encodeWord 0xCE a
  | .decAbsX a => encodeWord 0xDE a
  | .inx => [0xE8]
  | .iny => [0xC8]
  | .dex => [0xCA]
  | .dey => [0x88]
  | .andImm v => [0x29, v]
  | .andZp z => [0x25, z]
  | .andZpX z => [0x35, z]
  | .andAbs a => encodeWord 0x2D a
  | .andAbsX a => encodeWord 0x3D a
  | .andAbsY a => encodeWord 0x39 a
  | .andIndX z => [0x21, z]
  | .andIndY z => [0x31, z]
  | .oraImm v => [0x09, v]
  | .oraZp z => [0x05, z]
  | .oraZpX z => [0x15, z]
  | .oraAbs a => encodeWord 0x0D a
  | .oraAbsX a => encodeWord 0x1D a
  | .oraAbsY a => encodeWord 0x19 a
  | .oraIndX z => [0x01, z]
  | .oraIndY z => [0x11, z]
  | .eorImm v => [0x49, v]
  | .eorZp z => [0x45, z]
  | .eorZpX z => [0x55, z]
  | .eorAbs a => encodeWord 0x4D a
  | .eorAbsX a => encodeWord 0x5D a
  | .eorAbsY a => encodeWord 0x59 a
  | .eorIndX z => [0x41, z]
  | .eorIndY z => [0x51, z]
  | .bitZp z => [0x24, z]
  | .bitAbs a => encodeWord 0x2C a
  | .aslZp z => [0x06, z]
  | .aslZpX z => [0x16, z]
  | .aslAbs a => encodeWord 0x0E a
  | .aslAbsX a => encodeWord 0x1E a
  | .aslAcc => [0x0A]
  | .lsrZp z => [0x46, z]
  | .lsrZpX z => [0x56, z]
  | .lsrAbs a => encodeWord 0x4E a
  | .lsrAbsX a => encodeWord 0x5E a
  | .lsrAcc => [0x4A]
  | .rolZp z => [0x26, z]
  | .rolZpX z => [0x36, z]
  | .rolAbs a => encodeWord 0x2E a
  | .rolAbsX a => encodeWord 0x3E a
  | .rolAcc => [0x2A]
  | .rorZp z => [0x66, z]
  | .rorZpX z => [0x76, z]
  | .rorAbs a => encodeWord 0x6E a
  | .rorAbsX a => encodeWord 0x7E a
  | .rorAcc => [0x6A]
  | .jmpAbs a => encodeWord 0x4C a
  | .jmpInd a => encodeWord 0x6C a
  | .jsr a => encodeWord 0x20 a
  | .rts => [0x60]
  | .rti => [0x40]
  | .brk => [0x00]
  | .bpl r => [0x10, r]
  | .bmi r => [0x30, r]
  | .bvc r => [0x50, r]
  | .bvs r => [0x70, r]
  | .bcc r => [0x90, r]
  | .bcs r => [0xB0, r]
  | .bne r => [0xD0, r]
  | .beq r => [0xF0, r]
  | .nop => [0xEA]
  | .clc => [0x18]
  | .sec => [0x38]
  | .cli => [0x58]
  | .sei => [0x78]
  | .cld => [0xD8]
  | .sed => [0xF8]
  | .clv => [0xB8]
  | .invalid op => [op]

/-- Byte `k` of an instruction laid out in memory order, when the instruction is the number `w` of `nbits` bits: bit 0 is the least significant bit of the first byte, and every bit above `nbits` is 0. -/
def tableByte (nbits w k : Nat) : Byte := BitVec.ofNat 8 (w % 2 ^ nbits / 2 ^ (8 * k))

/-- The longest instruction has three bytes (R51). -/
def tableBytes (nbits w : Nat) : List Byte := [tableByte nbits w 0, tableByte nbits w 1, tableByte nbits w 2]

/-- The instruction the decoder reads from the `nbits`-bit number `w`. -/
def decodeTableWord (nbits w : Nat) : Option Instr :=
  match decode (tableBytes nbits w) with
  | .ok (i, _) => some i
  | .error _ => none

end Sys2Proof
end

