-- ==== Sys2Proof/Config.lean ====
section
/-! DEFINITION. What the block fixes (R6) and the values the spec leaves open to a named parameter. The two open parameters of decimal arithmetic, `DECIMAL_V` (D6) and `BCD_INVALID` (D7), are plain data in `State.params`; where one of them is set to anything but the spec's default, the value it stands for is an opaque constant of this file: nothing constrains it. DESIGN CHOICE, safe, log entry 2. -/

namespace Sys2Proof.Config

/-- `QCAP`: the capacity of both byte queues (R6, R23, D15). -/
def qcap : Nat := 1024

/-- `BUS_MAX_ENTRIES`: the largest number of routing entries (R6, R36). -/
def busMaxEntries : Nat := 16

/-- The free value V of a decimal ADC with operands `a`, `m` and carry `c` under a `DECIMAL_V` that is not `binary` (R93, D6). DESIGN CHOICE, safe: no proof can see its value, log entry 2. -/
opaque decimalVAdc (a m : Byte) (c : Bool) : Bool

/-- The free value V of a decimal SBC under a `DECIMAL_V` that is not `binary` (R93, D6). DESIGN CHOICE, safe, log entry 2. -/
opaque decimalVSbc (a m : Byte) (c : Bool) : Bool

/-- The free result byte and decimal carry of a decimal ADC with an operand digit above 9 under a `BCD_INVALID` that is not `nmos_sequence` (R91, D7). DESIGN CHOICE, safe, log entry 2. -/
opaque bcdInvalidAdc (a m : Byte) (c : Bool) : Byte × Bool

/-- The free result byte of a decimal SBC with an operand digit above 9 under a `BCD_INVALID` that is not `nmos_sequence` (R92, D7). DESIGN CHOICE, safe, log entry 2. -/
opaque bcdInvalidSbc (a m : Byte) (c : Bool) : Byte

end Sys2Proof.Config
end

