-- ==== Sys2Proof/Machine/State.lean ====
section
/-! DEFINITION. The state of the block as plain data (R13 to R25), the reasons a step or a host action can stop, and the state right after `reset()`. -/

namespace Sys2Proof.Machine

/-- The six stored bits of P (R16, R18): C, Z, I, D, V, N. B and U are hard-wired (R17) and appear only in the byte `Flags.toByte` computes (log entry 10). -/
structure Flags where
  /-- C, bit 0: carry out, no-borrow, shifted-out bit. -/
  c : Bool
  /-- Z, bit 1: the last result was zero. -/
  z : Bool
  /-- I, bit 2: masks IRQ. -/
  i : Bool
  /-- D, bit 3: ADC and SBC use BCD. -/
  d : Bool
  /-- V, bit 6: signed overflow. -/
  v : Bool
  /-- N, bit 7: bit 7 of the last result. -/
  n : Bool
  deriving DecidableEq, Repr

/-- Memory contents as (address, byte) pairs in the canonical form `Memory.wf`: addresses strictly rising, none out of the 64 KiB space, no entry equal to `Memory.unlisted` (R22, R26). -/
abbrev Memory := List Host.Cell

/-- The device kinds a routing entry may name: the two memory devices whose behaviour the spec gives (R40 to R42). R43 leaves further devices and ROM regions to BUS_CONFIG (R6) and gives them no behaviour; admitting none of them is the model's choice: DESIGN CHOICE, unsafe, log entry 16. -/
inductive Device where
  /-- Monitored RAM (R40, R41): the store `State.mem` with the output hooks. -/
  | monitoredRam
  /-- Plain RAM (R42): the store `State.plain`, of `plainRamSize` bytes. -/
  | plainRam
  deriving DecidableEq, Repr

/-- A routing entry `(device, start, end)` of the address bus (R36). -/
structure BusEntry where
  device : Device
  first : Word
  last : Word
  deriving DecidableEq, Repr

/-- The parameter `DECIMAL_V` (R93, D6). -/
inductive DecimalV where
  /-- The spec's default: the binary overflow of the same sum. -/
  | binary
  /-- Any other rule: V is a free value of `Config`. -/
  | other
  deriving DecidableEq, Repr

/-- The parameter `BCD_INVALID` (R91, R92, D7). -/
inductive BcdInvalid where
  /-- The spec's default: the nibble sequence of R91 and R92 as written. -/
  | nmosSequence
  /-- Any other rule: the result for a digit above 9 is a free value of `Config`. -/
  | other
  deriving DecidableEq, Repr

/-- The named parameters of R6 that a rule of the machine reads. They are fixed for a block: no step and no host action of R153 changes them (log entry 3). -/
structure Params where
  /-- `PLAIN_RAM_SIZE`, a power of two (R42, D17). -/
  plainRamSize : Nat
  /-- `DECIMAL_V` (R93, D6). -/
  decimalV : DecimalV
  /-- `BCD_INVALID` (R91, R92, D7). -/
  bcdInvalid : BcdInvalid
  deriving DecidableEq, Repr

/-- What the last `step()` returned to the host (R69, R11). The model's own field: a step's outcome in `Host.Outcome` has no place for it (log entry 6). -/
inductive Report where
  /-- No step has been taken. -/
  | none
  /-- `Ok(n)`: the step accounted `n` cycles (R162). -/
  | ok (n : Nat)
  /-- `InvalidOpcode(pc, op)`: the opcode's address and the byte (R137). -/
  | invalidOpcode (pc : Word) (op : Byte)
  deriving DecidableEq, Repr

/-- The state of the block. -/
structure State where
  /-- A, the accumulator (R13). -/
  a : Byte
  /-- X, an index register (R13). -/
  x : Byte
  /-- Y, an index register (R13). -/
  y : Byte
  /-- SP, the stack pointer in page 1 (R13, R32). -/
  sp : Byte
  /-- PC, the program counter (R15). -/
  pc : Word
  /-- The stored bits of P (R16, R17). -/
  flags : Flags
  /-- The IRQ latch (R19). -/
  irqPending : Bool
  /-- The NMI latch (R19). -/
  nmiPending : Bool
  /-- Set and cleared by the host (R20, R152). -/
  paused : Bool
  /-- Set by `InvalidOpcode`, cleared by `reset()` (R20, R137). -/
  halted : Bool
  /-- The cycle counter, unbounded (R21). -/
  cycles : Nat
  /-- The Monitored RAM's backing store M (R22). -/
  mem : Memory
  /-- The plain RAM's store R (R42). -/
  plain : Memory
  /-- The serial input queue, oldest byte first (R23, R148). -/
  inq : List Byte
  /-- The serial output queue, oldest byte first (R23, R148). -/
  outq : List Byte
  /-- `BUS_CONFIG`, first entry first (R24, R36). -/
  bus : List BusEntry
  /-- The parameters of the block (R6). -/
  params : Params
  /-- `FREQ_HZ`: no architectural effect (R6, R24, R165). -/
  freqHz : Nat
  /-- The debug flag: no architectural effect (R24, R71). -/
  debug : Bool
  /-- What the last step returned (R69). -/
  report : Report
  deriving DecidableEq, Repr

/-- Why the machine stops. -/
inductive Fault where
  /-- Raised by `step` and by the host's `step()` when `halted` is set: there is no step, only `reset()` moves (R20, R152, U2 `stuck`). Safe: the spec gives the halted core no behaviour. -/
  | halted
  deriving DecidableEq, Repr

/-- Why an instruction or a host action has no move. -/
inductive Refusal where
  /-- Raised by an arm of `exec` for an instruction without a meaning; no arm does so. Safe. -/
  | notModelled (mnemonic : String)
  /-- Raised by `hostAct` for `set_pc` and `snapshot_registers` while `paused` is clear (R153, D32, U13: `refuse`, no move). Safe. -/
  | notPaused
  /-- Raised by `hostAct` for `set_frequency 0`: FREQ_HZ is a number > 0 (R6). Safe. DESIGN CHOICE, log entry 5. -/
  | frequencyNotPositive
  deriving DecidableEq, Repr

/-- How a step or a meaning ends. -/
abbrev Result := Host.Outcome State Fault Refusal

/-- The flags of `P = 0x24` (R25, R155, C2): I set, the others clear. -/
def Flags.reset : Flags := { c := false, z := false, i := true, d := false, v := false, n := false }

/-- The default `BUS_CONFIG` (R39): monitored RAM over the whole space. -/
def defaultBus : List BusEntry := [{ device := .monitoredRam, first := 0x0000, last := 0xFFFF }]

/-- The default parameters (R6). The plain RAM's size has no default in the spec and is not read under the default bus: DESIGN CHOICE, unsafe, log entry 4. -/
def Params.default : Params := { plainRamSize := 0x10000, decimalV := .binary, bcdInvalid := .nmosSequence }

/-- `init()` (R154, R25) of a block with routing table `bus`, parameters `params` and the memory contents `MEM_INIT = mem` (and `plain` for a plain RAM). The frequency 1,000,000 and the clear debug flag are a DESIGN CHOICE with no architectural effect, safe, log entry 5. -/
def State.init (bus : List BusEntry) (params : Params) (mem plain : Memory) : State :=
  { a := 0x00, x := 0x00, y := 0x00, sp := 0xFD, pc := 0x0000, flags := Flags.reset,
    irqPending := false, nmiPending := false, paused := false, halted := false, cycles := 0,
    mem := mem, plain := plain, inq := [], outq := [], bus := bus, params := params,
    freqHz := 1000000, debug := false, report := .none }

/-- The machine right after `reset()` (R25, R155), applied to what `init()` leaves (R154) under the defaults of R6 and a zero MEM_INIT. PC is the vector at 0xFFFC, so 0x0000 here; MEM_INIT is an open parameter of the spec (D16): DESIGN CHOICE, unsafe, log entry 1. -/
def State.reset : State :=
  { a := 0x00, x := 0x00, y := 0x00, sp := 0xFD, pc := 0x0000, flags := Flags.reset,
    irqPending := false, nmiPending := false, paused := false, halted := false, cycles := 7,
    mem := [], plain := [], inq := [], outq := [], bus := defaultBus, params := Params.default,
    freqHz := 1000000, debug := false, report := .none }

end Sys2Proof.Machine
end

