-- ==== Sys2Proof/Machine/Ops.lean ====
section
/-! DEFINITION. The shared operations over the state: memory cells, queues, devices and the bus, the CPU's read and write paths, the stack, the byte P, taking an interrupt and returning from it, and the accounting of a step. Every read or write a meaning makes goes through them. -/

namespace Sys2Proof.Machine

/-! ### Memory cells -/

/-- What an address that is not listed reads as. MEM_INIT is open (R22, D16): DESIGN CHOICE, unsafe, log entry 1. -/
def Memory.unlisted : Byte := 0x00

/-- The byte at address `a`. -/
def Memory.read : Memory → Nat → Byte
  | [], _ => Memory.unlisted
  | (k, v) :: m, a => if k = a then v else Memory.read m a

/-- `m` with byte `v` at address `a`, in canonical form. -/
def Memory.write : Memory → Nat → Byte → Memory
  | [], a, v => if v = Memory.unlisted then [] else [(a, v)]
  | (k, w) :: m, a, v =>
    if a < k then (if v = Memory.unlisted then (k, w) :: m else (a, v) :: (k, w) :: m)
    else if a = k then (if v = Memory.unlisted then m else (a, v) :: m)
    else (k, w) :: Memory.write m a v

/-- Every address is at least `lo` and in the space of R26, the addresses strictly rise, and no byte is the one an unlisted address reads as. -/
def Memory.wfFrom : Nat → Memory → Bool
  | _, [] => true
  | lo, (k, v) :: m => decide (lo ≤ k) && decide (k < 0x10000) && (v != Memory.unlisted) && Memory.wfFrom (k + 1) m

/-- The canonical form. -/
def Memory.wf (m : Memory) : Bool := Memory.wfFrom 0 m

/-! ### Byte queues (R23, R148) -/

/-- `enqueue`: on a full queue the byte is rejected (R148). -/
def enqueue (q : List Byte) (b : Byte) : List Byte := if q.length < Config.qcap then q ++ [b] else q

/-- `dequeue()` (R148): the oldest byte, or `none` when the queue is empty, and the queue without it. -/
def dequeue (q : List Byte) : Option Byte × List Byte := (q.head?, q.tail)

/-- `is_empty()` (R148). -/
def queueIsEmpty (q : List Byte) : Bool := q.isEmpty

/-- `clear()` (R148): the queue without its bytes. No rule and no action of R153 performs it. -/
def queueClear (_ : List Byte) : List Byte := []

/-- `EnqueueText` (R41): each byte is enqueued on its own, and dropped on its own when the queue is full (D13). -/
def enqueueAll (q : List Byte) (bs : List Byte) : List Byte := bs.foldl enqueue q

/-! ### The monitored RAM's output (R41) -/

/-- One upper-case hexadecimal digit in ASCII (R41, D14). -/
def hexDigit (n : Nat) : Byte := if n < 10 then BitVec.ofNat 8 (0x30 + n) else BitVec.ofNat 8 (0x37 + n)

/-- `Hex2(b)` (R41). -/
def hex2 (b : Byte) : List Byte := [hexDigit (b.toNat / 16), hexDigit (b.toNat % 16)]

/-- `6502 FUNCTIONAL TEST ` (R41). -/
def functionalTest : List Byte :=
  [0x36, 0x35, 0x30, 0x32, 0x20, 0x46, 0x55, 0x4E, 0x43, 0x54, 0x49, 0x4F, 0x4E, 0x41, 0x4C, 0x20] ++
  [0x54, 0x45, 0x53, 0x54, 0x20]

/-- `ADDITIONAL TEST ` (R41). -/
def additionalTest : List Byte :=
  [0x41, 0x44, 0x44, 0x49, 0x54, 0x49, 0x4F, 0x4E, 0x41, 0x4C, 0x20, 0x54, 0x45, 0x53, 0x54, 0x20]

/-- `PASSED` in ASCII. -/
def passedText : List Byte := [0x50, 0x41, 0x53, 0x53, 0x45, 0x44]

/-- `FAILED` in ASCII. -/
def failedText : List Byte := [0x46, 0x41, 0x49, 0x4C, 0x45, 0x44]

/-- `: CODE 0x` in ASCII. -/
def codeText : List Byte := [0x3A, 0x20, 0x43, 0x4F, 0x44, 0x45, 0x20, 0x30, 0x78]

/-- The bytes a write of `b` at `addr` sends to the output queue (R41). The additional status is at 0x6002 (C3). -/
def hookOutput (addr : Word) (b : Byte) : List Byte :=
  if addr = 0x6000 then [b]
  else if addr = 0x6001 then
    if b = 0x00 then functionalTest ++ passedText ++ [0x0D, 0x0A] else functionalTest ++ failedText ++ [0x0D, 0x0A]
  else if addr = 0x6002 then
    if b = 0x00 then additionalTest ++ passedText ++ [0x0A]
    else additionalTest ++ failedText ++ codeText ++ hex2 b ++ [0x0A]
  else []

/-! ### The address bus (R36 to R42) -/

/-- The entry contains `addr` (R36). -/
def BusEntry.contains (e : BusEntry) (addr : Word) : Bool := e.first ≤ addr && addr ≤ e.last

/-- The device of the first entry that contains `addr` (R37, R38). -/
def route (bus : List BusEntry) (addr : Word) : Option Device := (bus.find? fun e => e.contains addr).map fun e => e.device

/-- `connect`: appends an entry, and fails when the table is full (R36). -/
def busConnect (bus : List BusEntry) (e : BusEntry) : Option (List BusEntry) :=
  if bus.length < Config.busMaxEntries then some (bus ++ [e]) else none

/-- Plain RAM `read` (R42): indexed by the absolute address (D17), 0xFF out of range. -/
def State.plainRead (s : State) (addr : Word) : Byte :=
  if addr.toNat < s.params.plainRamSize then s.plain.read addr.toNat else 0xFF

/-- Plain RAM `write` (R42): ignored out of range. -/
def State.plainWrite (s : State) (addr : Word) (b : Byte) : State :=
  if addr.toNat < s.params.plainRamSize then { s with plain := s.plain.write addr.toNat b } else s

/-- Monitored RAM `write` (R41): stores, then sends the hook's bytes to the output queue. -/
def State.monitoredWrite (s : State) (addr : Word) (b : Byte) : State :=
  { s with mem := s.mem.write addr.toNat b, outq := enqueueAll s.outq (hookOutput addr b) }

/-- `BusRead(addr)` (R37, R40, R42): 0xFF if no entry contains the address. -/
def State.busRead (s : State) (addr : Word) : Byte :=
  match route s.bus addr with
  | some .monitoredRam => s.mem.read addr.toNat
  | some .plainRam => s.plainRead addr
  | none => 0xFF

/-- `BusWrite(addr, v)` (R38): dropped if no entry contains the address. -/
def State.busWrite (s : State) (addr : Word) (b : Byte) : State :=
  match route s.bus addr with
  | some .monitoredRam => s.monitoredWrite addr b
  | some .plainRam => s.plainWrite addr b
  | none => s

/-! ### The CPU read and write paths (R33, R34) -/

/-- The serial input port (R33). -/
def serialIn : Word := 0xD011

/-- The serial output port (R34). -/
def serialOut : Word := 0xD012

/-- `MemRead(addr, 1)` (R9, R33): the byte and the state after the read; a read of the input port dequeues. -/
def State.memRead (s : State) (addr : Word) : Byte × State :=
  if addr = serialIn then
    if queueIsEmpty s.inq then (0x00, s)
    else
      let d := dequeue s.inq
      (d.1.getD 0x00, { s with inq := d.2 })
  else (s.busRead addr, s)

/-- `MemWrite(addr, 1, v)` (R9, R34): a write of the output port enqueues and stores nothing. -/
def State.memWrite (s : State) (addr : Word) (b : Byte) : State :=
  if addr = serialOut then { s with outq := enqueue s.outq b } else s.busWrite addr b

/-- `Read16(a)` (R30): low byte first, the second address modulo 0x10000. -/
def State.read16 (s : State) (addr : Word) : Word × State :=
  let lo := s.memRead addr
  let hi := lo.2.memRead (addr + 1)
  (wordOf hi.1 lo.1, hi.2)

/-- `zext_16(v)` (R7). -/
def zext16 (b : Byte) : Word := b.setWidth 16

/-- `sext_8(v)` (R7) as a 16-bit offset. -/
def sext8 (b : Byte) : Word := b.signExtend 16

/-- `ReadZP16(z)` (R31): both bytes in the zero page, wrapping (D2). -/
def State.readZP16 (s : State) (z : Byte) : Word × State :=
  let lo := s.memRead (zext16 z)
  let hi := lo.2.memRead (zext16 (z + 1))
  (wordOf hi.1 lo.1, hi.2)

/-! ### Register updates (R8) -/

/-- `A <- v`. -/
def State.setA (s : State) (v : Byte) : State := { s with a := v }

/-- `X <- v`. -/
def State.setX (s : State) (v : Byte) : State := { s with x := v }

/-- `Y <- v`. -/
def State.setY (s : State) (v : Byte) : State := { s with y := v }

/-- `SP <- v`. -/
def State.setSp (s : State) (v : Byte) : State := { s with sp := v }

/-- `PC <- v`. -/
def State.setPc (s : State) (v : Word) : State := { s with pc := v }

/-- Writes the stored bits of P. -/
def State.setFlags (s : State) (f : Flags) : State := { s with flags := f }

/-- The byte P (R16, R17): bit 4 reads 0 and bit 5 reads 1. -/
def Flags.toByte (f : Flags) : Byte :=
  BitVec.ofBool f.n ++ BitVec.ofBool f.v ++ 1#1 ++ 0#1 ++ BitVec.ofBool f.d ++ BitVec.ofBool f.i ++ BitVec.ofBool f.z ++ BitVec.ofBool f.c

/-- The stored bits of a byte written to P as a whole: `(b & 0xEF) | 0x20` (R17, R88, R117) keeps every bit but B and U. -/
def Flags.ofByte (b : Byte) : Flags :=
  { c := b.getLsbD 0, z := b.getLsbD 1, i := b.getLsbD 2, d := b.getLsbD 3, v := b.getLsbD 6, n := b.getLsbD 7 }

/-- P as a program or the host sees it. -/
def State.status (s : State) : Byte := s.flags.toByte

/-! ### The stack (R32) -/

/-- `0x0100 | SP`. -/
def stackAddr (sp : Byte) : Word := 0x0100 ||| zext16 sp

/-- `Push(v)`: writes at the next free byte, then moves SP down, wrapping in page 1. -/
def State.push (s : State) (v : Byte) : State := (s.memWrite (stackAddr s.sp) v).setSp (s.sp - 1)

/-- `Pull()`: moves SP up, wrapping, then reads. -/
def State.pull (s : State) : Byte × State := (s.setSp (s.sp + 1)).memRead (stackAddr (s.sp + 1))

/-- Two pulls, low byte first (R116, R117). -/
def State.pull16 (s : State) : Word × State :=
  let lo := s.pull
  let hi := lo.2.pull
  (wordOf hi.1 lo.1, hi.2)

/-- The two pushes of a 16-bit value, high byte first (R28, R115, R140). -/
def State.push16 (s : State) (w : Word) : State := (s.push (hiByte w)).push (loByte w)

/-! ### Taking an interrupt, and returning (R139 to R145) -/

/-- The NMI vector (R43). -/
def vectorNmi : Word := 0xFFFA

/-- The RESET vector (R43). -/
def vectorReset : Word := 0xFFFC

/-- The IRQ/BRK vector (R43). -/
def vectorIrq : Word := 0xFFFE

/-- The three pushes of an entry: PC high, PC low, `(P & 0xCF) | bits` (R140). -/
def State.pushFrame (s : State) (bits : Byte) : State := (s.push16 s.pc).push ((s.status &&& 0xCF) ||| bits)

/-- `IntEntry(vector, bits)` (R140), shared by NMI, IRQ and BRK: push PC and P, set I, load PC from the vector. D and the other flags stay (D9). -/
def State.intEntry (s : State) (vector : Word) (bits : Byte) : State :=
  let pushed := s.pushFrame bits
  let masked := pushed.setFlags { pushed.flags with i := true }
  let target := masked.read16 vector
  target.2.setPc target.1

/-- The return from an entry (R117, R145): P with B cleared and U set, then PC, not incremented. -/
def State.intReturn (s : State) : State :=
  let status := s.pull
  let target := (status.2.setFlags (Flags.ofByte status.1)).pull16
  target.2.setPc target.1

/-- `InterruptSample()` (R139): the state after the entry if an interrupt is serviced, NMI first, IRQ only when I is clear; the serviced latch is cleared. -/
def State.interruptSample (s : State) : Option State :=
  if s.nmiPending then some (({ s with nmiPending := false } : State).intEntry vectorNmi 0x20)
  else if s.irqPending && !s.flags.i then some (({ s with irqPending := false } : State).intEntry vectorIrq 0x20)
  else none

/-! ### The end of a step (R69, R162) -/

/-- Accounts `n` cycles and returns `Ok(n)` to the host. -/
def State.account (s : State) (n : Nat) : State := { s with cycles := s.cycles + n, report := .ok n }

/-- The end of an instruction of `n` cycles (R69). -/
def finish (n : Nat) (s : State) : Result := .next (s.account n)

/-- `raise InvalidOpcode(pc, op)` (R11, R137): the fetch's increment stands, so the opcode's address is PC - 1; no cycle is accounted and the core is halted. A next state, since R137 gives the whole state: DEDUCED, safe, log entry 7. -/
def State.raiseInvalidOpcode (s : State) (op : Byte) : State := { s with halted := true, report := .invalidOpcode (s.pc - 1) op }

/-- `reset()` (R155). -/
def State.hostReset (s : State) : State :=
  { s with
    pc := wordOf (s.busRead (vectorReset + 1)) (s.busRead vectorReset), sp := 0xFD, flags := Flags.reset,
    a := 0x00, x := 0x00, y := 0x00, irqPending := false, nmiPending := false, halted := false, cycles := 7 }

end Sys2Proof.Machine
end

