-- ==== Sys2Proof/Machine/Flags.lean ====
section
/-! DEFINITION. The flag computations: Z and N of a result (R10), the binary and decimal sums (R90 to R93), compare (R96), the shifts (R110 to R113) and BIT (R109). -/

namespace Sys2Proof.Machine

/-- `setZN(v)` (R10): Z and N of a result byte, the other flags kept. -/
def Flags.withZN (f : Flags) (v : Byte) : Flags := { f with z := v == 0, n := v.getLsbD 7 }

/-- `setZN(v)` on the state. -/
def State.setZN (s : State) (v : Byte) : State := s.setFlags (s.flags.withZN v)

/-- The result of a sum: the byte, the carry and the overflow (R90). -/
structure BinSum where
  r : Byte
  carry : Bool
  ovf : Bool
  deriving DecidableEq, Repr

/-- `AddBin(a, m, c)` (R90). -/
def addBin (a m : Byte) (c : Bool) : BinSum :=
  let s := a.toNat + m.toNat + c.toNat
  let r := BitVec.ofNat 8 s
  { r := r, carry := decide (0x100 ≤ s), ovf := ((~~~(a ^^^ m)) &&& (a ^^^ r) &&& 0x80) != 0 }

/-- The low and high decimal digits of a byte. -/
def lowDigit (b : Byte) : Nat := b.toNat % 16

/-- `a & 0xF0` as a number. -/
def highPart (b : Byte) : Nat := b.toNat / 16 * 16

/-- Both digits are at most 9 (R91). -/
def isBcd (b : Byte) : Bool := decide (b.toNat % 16 ≤ 9) && decide (b.toNat / 16 ≤ 9)

/-- The low-nibble sum of `DecAdd`, with its half-carry (R91). -/
def decAddLow (a m : Byte) (c : Bool) : Nat :=
  let al := lowDigit a + lowDigit m + c.toNat
  if 0x0A ≤ al then (al + 0x06) % 16 + 0x10 else al

/-- `DecAdd(a, m, c)` (R91): the result and the decimal carry. -/
def decAdd (a m : Byte) (c : Bool) : Byte × Bool :=
  let s := highPart a + highPart m + decAddLow a m c
  let s' := if 0xA0 ≤ s then s + 0x60 else s
  (BitVec.ofNat 8 s', decide (0x100 ≤ s'))

/-- The low-nibble difference of `DecSub`, with its half-borrow (R92). -/
def decSubLow (a m : Byte) (c : Bool) : Int :=
  let al : Int := (lowDigit a : Int) - (lowDigit m : Int) + (c.toNat : Int) - 1
  if al < 0 then (al - 0x06) % 16 - 0x10 else al

/-- `DecSub(a, m, c)` (R92). -/
def decSub (a m : Byte) (c : Bool) : Byte :=
  let s : Int := (highPart a : Int) - (highPart m : Int) + decSubLow a m c
  BitVec.ofInt 8 (if s < 0 then s - 0x60 else s)

/-- The decimal sum under the parameter `BCD_INVALID` (R91, D7). -/
def decimalAdc (p : Params) (a m : Byte) (c : Bool) : Byte × Bool :=
  match p.bcdInvalid with
  | .nmosSequence => decAdd a m c
  | .other => if isBcd a && isBcd m then decAdd a m c else Config.bcdInvalidAdc a m c

/-- The decimal difference under the parameter `BCD_INVALID` (R92, D7). -/
def decimalSbc (p : Params) (a m : Byte) (c : Bool) : Byte :=
  match p.bcdInvalid with
  | .nmosSequence => decSub a m c
  | .other => if isBcd a && isBcd m then decSub a m c else Config.bcdInvalidSbc a m c

/-- V of ADC in decimal mode, under the parameter `DECIMAL_V` (R93, D6). -/
def decimalAdcV (p : Params) (a m : Byte) (c : Bool) : Bool :=
  match p.decimalV with
  | .binary => (addBin a m c).ovf
  | .other => Config.decimalVAdc a m c

/-- V of SBC in decimal mode, under the parameter `DECIMAL_V` (R93, D6). -/
def decimalSbcV (p : Params) (a m : Byte) (c : Bool) : Bool :=
  match p.decimalV with
  | .binary => (addBin a (~~~m) c).ovf
  | .other => Config.decimalVSbc a m c

/-- The result byte and the flags an operation leaves. -/
structure Effect where
  result : Byte
  flags : Flags
  deriving DecidableEq, Repr

/-- ADC (R94, R93) on A = `a`, operand `m` and the flags `f`. -/
def adcEffect (p : Params) (f : Flags) (a m : Byte) : Effect :=
  let bin := addBin a m f.c
  if f.d then
    let dec := decimalAdc p a m f.c
    { result := dec.1, flags := { f with c := dec.2, v := decimalAdcV p a m f.c }.withZN bin.r }
  else { result := bin.r, flags := { f with c := bin.carry, v := bin.ovf }.withZN bin.r }

/-- SBC (R95, R93) on A = `a`, operand `m` and the flags `f`. The carry is the binary no-borrow in both modes (D8). -/
def sbcEffect (p : Params) (f : Flags) (a m : Byte) : Effect :=
  let bin := addBin a (~~~m) f.c
  if f.d then
    { result := decimalSbc p a m f.c, flags := { f with c := bin.carry, v := decimalSbcV p a m f.c }.withZN bin.r }
  else { result := bin.r, flags := { f with c := bin.carry, v := bin.ovf }.withZN bin.r }

/-- `Compare(reg, m)` (R96). -/
def compareFlags (f : Flags) (reg m : Byte) : Flags := { f with c := decide (m ≤ reg) }.withZN (reg - m)

/-- BIT (R109): Z from `A & m`, N and V from bits 7 and 6 of `m`. -/
def bitFlags (f : Flags) (a m : Byte) : Flags :=
  { f with z := (a &&& m) == 0, n := m.getLsbD 7, v := m.getLsbD 6 }

/-- A shift or rotate of `v` whose result is `r` and whose shifted-out bit is `out` (R110 to R113). -/
def shiftEffect (f : Flags) (r : Byte) (out : Bool) : Effect := { result := r, flags := { f with c := out }.withZN r }

/-- ASL (R110). -/
def aslEffect (f : Flags) (v : Byte) : Effect := shiftEffect f (v <<< 1) (v.getLsbD 7)

/-- LSR (R111). -/
def lsrEffect (f : Flags) (v : Byte) : Effect := shiftEffect f (v >>> 1) (v.getLsbD 0)

/-- ROL (R112). -/
def rolEffect (f : Flags) (v : Byte) : Effect := shiftEffect f ((v <<< 1) ||| (BitVec.ofBool f.c).setWidth 8) (v.getLsbD 7)

/-- ROR (R113). -/
def rorEffect (f : Flags) (v : Byte) : Effect := shiftEffect f ((v >>> 1) ||| ((BitVec.ofBool f.c).setWidth 8 <<< 7)) (v.getLsbD 0)

/-- INC (R100): no flag but Z and N. -/
def incEffect (f : Flags) (v : Byte) : Effect := { result := v + 1, flags := f.withZN (v + 1) }

/-- DEC (R101): no flag but Z and N. -/
def decEffect (f : Flags) (v : Byte) : Effect := { result := v - 1, flags := f.withZN (v - 1) }

end Sys2Proof.Machine
end

