-- ==== Sys2Proof/Machine/Operands.lean ====
section
/-! DEFINITION. The operand forms (R56 to R68) over operand bytes that the fetch has read, and the ways an instruction uses one: `LoadOp`, `StoreOp` (R12) and the page-cross charge (R163). An immediate operand is its byte: the one read the spec makes of it is the fetch's (R58): DEDUCED, safe, log entry 13. -/

namespace Sys2Proof.Machine

/-- The eight addressing modes that name a memory byte (R59 to R61, R63 to R65, R67, R68). -/
inductive MemOperand where
  /-- Zero page (R59). -/
  | zp (z : Byte)
  /-- Zero page,X (R60). -/
  | zpX (z : Byte)
  /-- Zero page,Y (R61). -/
  | zpY (z : Byte)
  /-- Absolute (R63). -/
  | abs (a : Word)
  /-- Absolute,X (R64). -/
  | absX (a : Word)
  /-- Absolute,Y (R65). -/
  | absY (a : Word)
  /-- Indexed indirect (zp,X) (R67). -/
  | indX (z : Byte)
  /-- Indirect indexed (zp),Y (R68). -/
  | indY (z : Byte)
  deriving DecidableEq, Repr

/-- An operand that is read: an immediate (R58) or a memory byte. -/
inductive Source where
  | imm (v : Byte)
  | mem (m : MemOperand)
  deriving DecidableEq, Repr

/-- An operand that is read and written: A (R57) or a memory byte. -/
inductive Place where
  | acc
  | mem (m : MemOperand)
  deriving DecidableEq, Repr

/-- An effective address and its page-cross flag (R12). -/
structure Ea where
  addr : Word
  crossed : Bool
  deriving DecidableEq, Repr

/-- Bits [15:8] of the two addresses differ (R62, R64, R68). -/
def pageDiffers (base target : Word) : Bool := (base &&& 0xFF00) != (target &&& 0xFF00)

/-- The indexed address `(b + i) mod 0x10000` with its page-cross flag (R64, R65, R68). -/
def indexed (b : Word) (i : Byte) : Ea := { addr := b + zext16 i, crossed := pageDiffers b (b + zext16 i) }

/-- The effective address, and the state after the mode's pointer reads (R59 to R68). -/
def MemOperand.resolve : MemOperand → State → Ea × State
  | .zp z, s => ({ addr := zext16 z, crossed := false }, s)
  | .zpX z, s => ({ addr := zext16 (z + s.x), crossed := false }, s)
  | .zpY z, s => ({ addr := zext16 (z + s.y), crossed := false }, s)
  | .abs a, s => ({ addr := a, crossed := false }, s)
  | .absX a, s => (indexed a s.x, s)
  | .absY a, s => (indexed a s.y, s)
  | .indX z, s =>
    let p := s.readZP16 (z + s.x)
    ({ addr := p.1, crossed := false }, p.2)
  | .indY z, s =>
    let p := s.readZP16 z
    (indexed p.1 s.y, p.2)

/-- What `LoadOp(ea)` gives: the byte, whether the mode crossed a page, and the state after the reads. -/
structure Loaded where
  value : Byte
  crossed : Bool
  after : State
  deriving DecidableEq, Repr

/-- The mode's pointer reads, then `LoadOp(ea)` (R12). -/
def Source.load : Source → State → Loaded
  | .imm v, s => { value := v, crossed := false, after := s }
  | .mem m, s =>
    let ea := m.resolve s
    let v := ea.2.memRead ea.1.addr
    { value := v.1, crossed := ea.1.crossed, after := v.2 }

/-- The cycles of an instruction of the set {ADC, AND, CMP, EOR, LDA, LDX, LDY, ORA, SBC}: one more on a page cross (R163). -/
def readCycles (base : Nat) (crossed : Bool) : Nat := if crossed then base + 1 else base

/-- A store instruction (R76 to R78): the mode's pointer reads, then one write of `v`; no read of the destination (D4), no page-cross charge (R163). -/
def storeMem (m : MemOperand) (v : Byte) (base : Nat) (s : State) : Result :=
  let ea := m.resolve s
  finish base (ea.2.memWrite ea.1.addr v)

/-- A read-modify-write on memory: the mode's pointer reads, one read, one write (R45, D4), then the flags. -/
def modifyMem (f : Flags → Byte → Effect) (m : MemOperand) (base : Nat) (s : State) : Result :=
  let ea := m.resolve s
  let v := ea.2.memRead ea.1.addr
  let e := f s.flags v.1
  finish base ((v.2.memWrite ea.1.addr e.result).setFlags e.flags)

/-- A shift or rotate on A or on memory (R57, R110 to R113). -/
def modifyPlace (f : Flags → Byte → Effect) (p : Place) (base : Nat) (s : State) : Result :=
  match p with
  | .acc =>
    let e := f s.flags s.a
    finish base ((s.setA e.result).setFlags e.flags)
  | .mem m => modifyMem f m base s

/-- The relative target (R62): PC after the operand fetch plus the signed offset. -/
def relTarget (pc : Word) (r : Byte) : Word := pc + sext8 r

/-- The address of the high byte of an indirect jump's pointer, with the page-wrap bug (R66). -/
def indirectHigh (p : Word) : Word := (p &&& 0xFF00) ||| ((p + 1) &&& 0x00FF)

/-- The target of `JMP (p)` (R66) and the state after the two reads. -/
def State.readIndirect (s : State) (p : Word) : Word × State :=
  let lo := s.memRead p
  let hi := lo.2.memRead (indirectHigh p)
  (wordOf hi.1 lo.1, hi.2)

end Sys2Proof.Machine
end

