-- ==== Sys2Proof/Machine/Arithmetic.lean ====
section
/-! DEFINITION. Arithmetic, compare, increment and decrement (42_arithmetic.md, R89 to R105). -/

namespace Sys2Proof.Machine

/-- ADC (R94). -/
def adc (src : Source) (base : Nat) (s : State) : Result :=
  let l := src.load s
  let e := adcEffect s.params s.flags s.a l.value
  finish (readCycles base l.crossed) ((l.after.setA e.result).setFlags e.flags)

/-- SBC (R95). -/
def sbc (src : Source) (base : Nat) (s : State) : Result :=
  let l := src.load s
  let e := sbcEffect s.params s.flags s.a l.value
  finish (readCycles base l.crossed) ((l.after.setA e.result).setFlags e.flags)

/-- CMP (R97). -/
def cmp (src : Source) (base : Nat) (s : State) : Result :=
  let l := src.load s
  finish (readCycles base l.crossed) (l.after.setFlags (compareFlags s.flags s.a l.value))

/-- CPX (R98): never a page-cross charge (R163). -/
def cpx (src : Source) (base : Nat) (s : State) : Result :=
  let l := src.load s
  finish base (l.after.setFlags (compareFlags s.flags s.x l.value))

/-- CPY (R99): never a page-cross charge (R163). -/
def cpy (src : Source) (base : Nat) (s : State) : Result :=
  let l := src.load s
  finish base (l.after.setFlags (compareFlags s.flags s.y l.value))

/-- `ADC #v`, opcode 0x69: R94, mode R58. -/
def execAdcImm (v : Byte) (s : State) : Result := adc (.imm v) 2 s

/-- `ADC z`, opcode 0x65: R94, mode R59. -/
def execAdcZp (z : Byte) (s : State) : Result := adc (.mem (.zp z)) 3 s

/-- `ADC z,X`, opcode 0x75: R94, mode R60. -/
def execAdcZpX (z : Byte) (s : State) : Result := adc (.mem (.zpX z)) 4 s

/-- `ADC a`, opcode 0x6D: R94, mode R63. -/
def execAdcAbs (a : Word) (s : State) : Result := adc (.mem (.abs a)) 4 s

/-- `ADC a,X`, opcode 0x7D: R94, mode R64. -/
def execAdcAbsX (a : Word) (s : State) : Result := adc (.mem (.absX a)) 4 s

/-- `ADC a,Y`, opcode 0x79: R94, mode R65. -/
def execAdcAbsY (a : Word) (s : State) : Result := adc (.mem (.absY a)) 4 s

/-- `ADC (z,X)`, opcode 0x61: R94, mode R67. -/
def execAdcIndX (z : Byte) (s : State) : Result := adc (.mem (.indX z)) 6 s

/-- `ADC (z),Y`, opcode 0x71: R94, mode R68. -/
def execAdcIndY (z : Byte) (s : State) : Result := adc (.mem (.indY z)) 5 s

/-- `SBC #v`, opcode 0xE9: R95, mode R58. -/
def execSbcImm (v : Byte) (s : State) : Result := sbc (.imm v) 2 s

/-- `SBC z`, opcode 0xE5: R95, mode R59. -/
def execSbcZp (z : Byte) (s : State) : Result := sbc (.mem (.zp z)) 3 s

/-- `SBC z,X`, opcode 0xF5: R95, mode R60. -/
def execSbcZpX (z : Byte) (s : State) : Result := sbc (.mem (.zpX z)) 4 s

/-- `SBC a`, opcode 0xED: R95, mode R63. -/
def execSbcAbs (a : Word) (s : State) : Result := sbc (.mem (.abs a)) 4 s

/-- `SBC a,X`, opcode 0xFD: R95, mode R64. -/
def execSbcAbsX (a : Word) (s : State) : Result := sbc (.mem (.absX a)) 4 s

/-- `SBC a,Y`, opcode 0xF9: R95, mode R65. -/
def execSbcAbsY (a : Word) (s : State) : Result := sbc (.mem (.absY a)) 4 s

/-- `SBC (z,X)`, opcode 0xE1: R95, mode R67. -/
def execSbcIndX (z : Byte) (s : State) : Result := sbc (.mem (.indX z)) 6 s

/-- `SBC (z),Y`, opcode 0xF1: R95, mode R68. -/
def execSbcIndY (z : Byte) (s : State) : Result := sbc (.mem (.indY z)) 5 s

/-- `SBC #v`, opcode 0xEB, alias of 0xE9 (R54): R95, mode R58. -/
def execSbcImmEB (v : Byte) (s : State) : Result := sbc (.imm v) 2 s

/-- `CMP #v`, opcode 0xC9: R97, mode R58. -/
def execCmpImm (v : Byte) (s : State) : Result := cmp (.imm v) 2 s

/-- `CMP z`, opcode 0xC5: R97, mode R59. -/
def execCmpZp (z : Byte) (s : State) : Result := cmp (.mem (.zp z)) 3 s

/-- `CMP z,X`, opcode 0xD5: R97, mode R60. -/
def execCmpZpX (z : Byte) (s : State) : Result := cmp (.mem (.zpX z)) 4 s

/-- `CMP a`, opcode 0xCD: R97, mode R63. -/
def execCmpAbs (a : Word) (s : State) : Result := cmp (.mem (.abs a)) 4 s

/-- `CMP a,X`, opcode 0xDD: R97, mode R64. -/
def execCmpAbsX (a : Word) (s : State) : Result := cmp (.mem (.absX a)) 4 s

/-- `CMP a,Y`, opcode 0xD9: R97, mode R65. -/
def execCmpAbsY (a : Word) (s : State) : Result := cmp (.mem (.absY a)) 4 s

/-- `CMP (z,X)`, opcode 0xC1: R97, mode R67. -/
def execCmpIndX (z : Byte) (s : State) : Result := cmp (.mem (.indX z)) 6 s

/-- `CMP (z),Y`, opcode 0xD1: R97, mode R68. -/
def execCmpIndY (z : Byte) (s : State) : Result := cmp (.mem (.indY z)) 5 s

/-- `CPX #v`, opcode 0xE0: R98, mode R58. -/
def execCpxImm (v : Byte) (s : State) : Result := cpx (.imm v) 2 s

/-- `CPX z`, opcode 0xE4: R98, mode R59. -/
def execCpxZp (z : Byte) (s : State) : Result := cpx (.mem (.zp z)) 3 s

/-- `CPX a`, opcode 0xEC: R98, mode R63. -/
def execCpxAbs (a : Word) (s : State) : Result := cpx (.mem (.abs a)) 4 s

/-- `CPY #v`, opcode 0xC0: R99, mode R58. -/
def execCpyImm (v : Byte) (s : State) : Result := cpy (.imm v) 2 s

/-- `CPY z`, opcode 0xC4: R99, mode R59. -/
def execCpyZp (z : Byte) (s : State) : Result := cpy (.mem (.zp z)) 3 s

/-- `CPY a`, opcode 0xCC: R99, mode R63. -/
def execCpyAbs (a : Word) (s : State) : Result := cpy (.mem (.abs a)) 4 s

/-- `INC z`, opcode 0xE6: R100, mode R59. -/
def execIncZp (z : Byte) (s : State) : Result := modifyMem incEffect (.zp z) 5 s

/-- `INC z,X`, opcode 0xF6: R100, mode R60. -/
def execIncZpX (z : Byte) (s : State) : Result := modifyMem incEffect (.zpX z) 6 s

/-- `INC a`, opcode 0xEE: R100, mode R63. -/
def execIncAbs (a : Word) (s : State) : Result := modifyMem incEffect (.abs a) 6 s

/-- `INC a,X`, opcode 0xFE: R100, mode R64. -/
def execIncAbsX (a : Word) (s : State) : Result := modifyMem incEffect (.absX a) 7 s

/-- `DEC z`, opcode 0xC6: R101, mode R59. -/
def execDecZp (z : Byte) (s : State) : Result := modifyMem decEffect (.zp z) 5 s

/-- `DEC z,X`, opcode 0xD6: R101, mode R60. -/
def execDecZpX (z : Byte) (s : State) : Result := modifyMem decEffect (.zpX z) 6 s

/-- `DEC a`, opcode 0xCE: R101, mode R63. -/
def execDecAbs (a : Word) (s : State) : Result := modifyMem decEffect (.abs a) 6 s

/-- `DEC a,X`, opcode 0xDE: R101, mode R64. -/
def execDecAbsX (a : Word) (s : State) : Result := modifyMem decEffect (.absX a) 7 s

/-- `INX`, opcode 0xE8: R102, mode R56. -/
def execInx (s : State) : Result := finish 2 ((s.setX (s.x + 1)).setZN (s.x + 1))

/-- `INY`, opcode 0xC8: R103, mode R56. -/
def execIny (s : State) : Result := finish 2 ((s.setY (s.y + 1)).setZN (s.y + 1))

/-- `DEX`, opcode 0xCA: R104, mode R56. -/
def execDex (s : State) : Result := finish 2 ((s.setX (s.x - 1)).setZN (s.x - 1))

/-- `DEY`, opcode 0x88: R105, mode R56. -/
def execDey (s : State) : Result := finish 2 ((s.setY (s.y - 1)).setZN (s.y - 1))

end Sys2Proof.Machine
end

