-- ==== Sys2Proof/Machine/Control.lean ====
section
/-! DEFINITION. Control transfer (44_control.md, R114 to R128) and the bytes without an instruction (R137). PC is the address of the next sequential instruction when a meaning starts (R15, R69). -/

namespace Sys2Proof.Machine

/-- A branch (R119, R163): the target is committed when the condition holds; 2 cycles, one more if taken, one more if taken across a page. -/
def branch (cond : Bool) (r : Byte) (s : State) : Result :=
  let target := relTarget s.pc r
  if cond then finish (if pageDiffers s.pc target then 4 else 3) (s.setPc target) else finish 2 s

/-- `JMP a`, opcode 0x4C: R114, mode R63. -/
def execJmpAbs (a : Word) (s : State) : Result := finish 3 (s.setPc a)

/-- `JMP (a)`, opcode 0x6C: R114, mode R66. -/
def execJmpInd (a : Word) (s : State) : Result := 
  let t := s.readIndirect a
  finish 5 (t.2.setPc t.1)

/-- `JSR a`, opcode 0x20: R115, mode R63. -/
def execJsr (a : Word) (s : State) : Result := finish 6 ((s.push16 (s.pc - 1)).setPc a)

/-- `RTS`, opcode 0x60: R116, mode R56. -/
def execRts (s : State) : Result := 
  let t := s.pull16
  finish 6 (t.2.setPc (t.1 + 1))

/-- `RTI`, opcode 0x40: R117, mode R56. -/
def execRti (s : State) : Result := finish 6 s.intReturn

/-- `BRK`, opcode 0x00: R118, mode R56. -/
def execBrk (s : State) : Result := finish 7 ((s.setPc (s.pc + 1)).intEntry vectorIrq 0x30)

/-- `BPL r`, opcode 0x10: R120, mode R62. -/
def execBpl (r : Byte) (s : State) : Result := branch (!s.flags.n) r s

/-- `BMI r`, opcode 0x30: R121, mode R62. -/
def execBmi (r : Byte) (s : State) : Result := branch s.flags.n r s

/-- `BVC r`, opcode 0x50: R122, mode R62. -/
def execBvc (r : Byte) (s : State) : Result := branch (!s.flags.v) r s

/-- `BVS r`, opcode 0x70: R123, mode R62. -/
def execBvs (r : Byte) (s : State) : Result := branch s.flags.v r s

/-- `BCC r`, opcode 0x90: R124, mode R62. -/
def execBcc (r : Byte) (s : State) : Result := branch (!s.flags.c) r s

/-- `BCS r`, opcode 0xB0: R125, mode R62. -/
def execBcs (r : Byte) (s : State) : Result := branch s.flags.c r s

/-- `BNE r`, opcode 0xD0: R126, mode R62. -/
def execBne (r : Byte) (s : State) : Result := branch (!s.flags.z) r s

/-- `BEQ r`, opcode 0xF0: R127, mode R62. -/
def execBeq (r : Byte) (s : State) : Result := branch s.flags.z r s

/-- `NOP`, opcode 0xEA: R128, mode R56. -/
def execNop (s : State) : Result := finish 2 s

/-- A byte with no instruction (R55): `raise InvalidOpcode(opc_addr, op)` (R137). -/
def execInvalid (op : Byte) (s : State) : Result := .next (s.raiseInvalidOpcode op)

end Sys2Proof.Machine
end

