-- ==== Sys2Proof/Machine/FlagInstructions.lean ====
section
/-! DEFINITION. The flag instructions (45_flags.md, R129 to R135): one flag each, 2 cycles. -/

namespace Sys2Proof.Machine

/-- `CLC`, opcode 0x18: R129, mode R56. -/
def execClc (s : State) : Result := finish 2 (s.setFlags { s.flags with c := false })

/-- `SEC`, opcode 0x38: R130, mode R56. -/
def execSec (s : State) : Result := finish 2 (s.setFlags { s.flags with c := true })

/-- `CLI`, opcode 0x58: R131, mode R56. -/
def execCli (s : State) : Result := finish 2 (s.setFlags { s.flags with i := false })

/-- `SEI`, opcode 0x78: R132, mode R56. -/
def execSei (s : State) : Result := finish 2 (s.setFlags { s.flags with i := true })

/-- `CLD`, opcode 0xD8: R133, mode R56. -/
def execCld (s : State) : Result := finish 2 (s.setFlags { s.flags with d := false })

/-- `SED`, opcode 0xF8: R134, mode R56. -/
def execSed (s : State) : Result := finish 2 (s.setFlags { s.flags with d := true })

/-- `CLV`, opcode 0xB8: R135, mode R56. -/
def execClv (s : State) : Result := finish 2 (s.setFlags { s.flags with v := false })

end Sys2Proof.Machine
end

