-- ==== Sys2Proof/Machine/LoadStore.lean ====
section
/-! DEFINITION. Loads and stores (40_load_store.md, R73 to R78). The base cycles of each form are the column of the decode table of R53. -/

namespace Sys2Proof.Machine

/-- LDA (R73): `v <- LoadOp(ea); A <- v; setZN(v)`. -/
def lda (src : Source) (base : Nat) (s : State) : Result :=
  let l := src.load s
  finish (readCycles base l.crossed) ((l.after.setA l.value).setZN l.value)

/-- LDX (R74): `v <- LoadOp(ea); X <- v; setZN(v)`. -/
def ldx (src : Source) (base : Nat) (s : State) : Result :=
  let l := src.load s
  finish (readCycles base l.crossed) ((l.after.setX l.value).setZN l.value)

/-- LDY (R75): `v <- LoadOp(ea); Y <- v; setZN(v)`. -/
def ldy (src : Source) (base : Nat) (s : State) : Result :=
  let l := src.load s
  finish (readCycles base l.crossed) ((l.after.setY l.value).setZN l.value)

/-- `LDA #v`, opcode 0xA9: R73, mode R58. -/
def execLdaImm (v : Byte) (s : State) : Result := lda (.imm v) 2 s

/-- `LDA z`, opcode 0xA5: R73, mode R59. -/
def execLdaZp (z : Byte) (s : State) : Result := lda (.mem (.zp z)) 3 s

/-- `LDA z,X`, opcode 0xB5: R73, mode R60. -/
def execLdaZpX (z : Byte) (s : State) : Result := lda (.mem (.zpX z)) 4 s

/-- `LDA a`, opcode 0xAD: R73, mode R63. -/
def execLdaAbs (a : Word) (s : State) : Result := lda (.mem (.abs a)) 4 s

/-- `LDA a,X`, opcode 0xBD: R73, mode R64. -/
def execLdaAbsX (a : Word) (s : State) : Result := lda (.mem (.absX a)) 4 s

/-- `LDA a,Y`, opcode 0xB9: R73, mode R65. -/
def execLdaAbsY (a : Word) (s : State) : Result := lda (.mem (.absY a)) 4 s

/-- `LDA (z,X)`, opcode 0xA1: R73, mode R67. -/
def execLdaIndX (z : Byte) (s : State) : Result := lda (.mem (.indX z)) 6 s

/-- `LDA (z),Y`, opcode 0xB1: R73, mode R68. -/
def execLdaIndY (z : Byte) (s : State) : Result := lda (.mem (.indY z)) 5 s

/-- `LDX #v`, opcode 0xA2: R74, mode R58. -/
def execLdxImm (v : Byte) (s : State) : Result := ldx (.imm v) 2 s

/-- `LDX z`, opcode 0xA6: R74, mode R59. -/
def execLdxZp (z : Byte) (s : State) : Result := ldx (.mem (.zp z)) 3 s

/-- `LDX z,Y`, opcode 0xB6: R74, mode R61. -/
def execLdxZpY (z : Byte) (s : State) : Result := ldx (.mem (.zpY z)) 4 s

/-- `LDX a`, opcode 0xAE: R74, mode R63. -/
def execLdxAbs (a : Word) (s : State) : Result := ldx (.mem (.abs a)) 4 s

/-- `LDX a,Y`, opcode 0xBE: R74, mode R65. -/
def execLdxAbsY (a : Word) (s : State) : Result := ldx (.mem (.absY a)) 4 s

/-- `LDY #v`, opcode 0xA0: R75, mode R58. -/
def execLdyImm (v : Byte) (s : State) : Result := ldy (.imm v) 2 s

/-- `LDY z`, opcode 0xA4: R75, mode R59. -/
def execLdyZp (z : Byte) (s : State) : Result := ldy (.mem (.zp z)) 3 s

/-- `LDY z,X`, opcode 0xB4: R75, mode R60. -/
def execLdyZpX (z : Byte) (s : State) : Result := ldy (.mem (.zpX z)) 4 s

/-- `LDY a`, opcode 0xAC: R75, mode R63. -/
def execLdyAbs (a : Word) (s : State) : Result := ldy (.mem (.abs a)) 4 s

/-- `LDY a,X`, opcode 0xBC: R75, mode R64. -/
def execLdyAbsX (a : Word) (s : State) : Result := ldy (.mem (.absX a)) 4 s

/-- `STA z`, opcode 0x85: R76, mode R59. -/
def execStaZp (z : Byte) (s : State) : Result := storeMem (.zp z) s.a 3 s

/-- `STA z,X`, opcode 0x95: R76, mode R60. -/
def execStaZpX (z : Byte) (s : State) : Result := storeMem (.zpX z) s.a 4 s

/-- `STA a`, opcode 0x8D: R76, mode R63. -/
def execStaAbs (a : Word) (s : State) : Result := storeMem (.abs a) s.a 4 s

/-- `STA a,X`, opcode 0x9D: R76, mode R64. -/
def execStaAbsX (a : Word) (s : State) : Result := storeMem (.absX a) s.a 5 s

/-- `STA a,Y`, opcode 0x99: R76, mode R65. -/
def execStaAbsY (a : Word) (s : State) : Result := storeMem (.absY a) s.a 5 s

/-- `STA (z,X)`, opcode 0x81: R76, mode R67. -/
def execStaIndX (z : Byte) (s : State) : Result := storeMem (.indX z) s.a 6 s

/-- `STA (z),Y`, opcode 0x91: R76, mode R68. -/
def execStaIndY (z : Byte) (s : State) : Result := storeMem (.indY z) s.a 6 s

/-- `STX z`, opcode 0x86: R77, mode R59. -/
def execStxZp (z : Byte) (s : State) : Result := storeMem (.zp z) s.x 3 s

/-- `STX z,Y`, opcode 0x96: R77, mode R61. -/
def execStxZpY (z : Byte) (s : State) : Result := storeMem (.zpY z) s.x 4 s

/-- `STX a`, opcode 0x8E: R77, mode R63. -/
def execStxAbs (a : Word) (s : State) : Result := storeMem (.abs a) s.x 4 s

/-- `STY z`, opcode 0x84: R78, mode R59. -/
def execStyZp (z : Byte) (s : State) : Result := storeMem (.zp z) s.y 3 s

/-- `STY z,X`, opcode 0x94: R78, mode R60. -/
def execStyZpX (z : Byte) (s : State) : Result := storeMem (.zpX z) s.y 4 s

/-- `STY a`, opcode 0x8C: R78, mode R63. -/
def execStyAbs (a : Word) (s : State) : Result := storeMem (.abs a) s.y 4 s

end Sys2Proof.Machine
end

