-- ==== Sys2Proof/Machine/LogicShift.lean ====
section
/-! DEFINITION. Logical operations, bit test, shifts and rotates (43_logic_shift.md, R106 to R113). -/

namespace Sys2Proof.Machine

/-- AND, ORA, EOR (R106 to R108): `A <- op(A, LoadOp(ea)); setZN(A)`. -/
def logic (op : Byte → Byte → Byte) (src : Source) (base : Nat) (s : State) : Result :=
  let l := src.load s
  let r := op s.a l.value
  finish (readCycles base l.crossed) ((l.after.setA r).setZN r)

/-- BIT (R109): never a page-cross charge (R163). -/
def bitTest (src : Source) (base : Nat) (s : State) : Result :=
  let l := src.load s
  finish base (l.after.setFlags (bitFlags s.flags s.a l.value))

/-- `AND #v`, opcode 0x29: R106, mode R58. -/
def execAndImm (v : Byte) (s : State) : Result := logic (· &&& ·) (.imm v) 2 s

/-- `AND z`, opcode 0x25: R106, mode R59. -/
def execAndZp (z : Byte) (s : State) : Result := logic (· &&& ·) (.mem (.zp z)) 3 s

/-- `AND z,X`, opcode 0x35: R106, mode R60. -/
def execAndZpX (z : Byte) (s : State) : Result := logic (· &&& ·) (.mem (.zpX z)) 4 s

/-- `AND a`, opcode 0x2D: R106, mode R63. -/
def execAndAbs (a : Word) (s : State) : Result := logic (· &&& ·) (.mem (.abs a)) 4 s

/-- `AND a,X`, opcode 0x3D: R106, mode R64. -/
def execAndAbsX (a : Word) (s : State) : Result := logic (· &&& ·) (.mem (.absX a)) 4 s

/-- `AND a,Y`, opcode 0x39: R106, mode R65. -/
def execAndAbsY (a : Word) (s : State) : Result := logic (· &&& ·) (.mem (.absY a)) 4 s

/-- `AND (z,X)`, opcode 0x21: R106, mode R67. -/
def execAndIndX (z : Byte) (s : State) : Result := logic (· &&& ·) (.mem (.indX z)) 6 s

/-- `AND (z),Y`, opcode 0x31: R106, mode R68. -/
def execAndIndY (z : Byte) (s : State) : Result := logic (· &&& ·) (.mem (.indY z)) 5 s

/-- `ORA #v`, opcode 0x09: R107, mode R58. -/
def execOraImm (v : Byte) (s : State) : Result := logic (· ||| ·) (.imm v) 2 s

/-- `ORA z`, opcode 0x05: R107, mode R59. -/
def execOraZp (z : Byte) (s : State) : Result := logic (· ||| ·) (.mem (.zp z)) 3 s

/-- `ORA z,X`, opcode 0x15: R107, mode R60. -/
def execOraZpX (z : Byte) (s : State) : Result := logic (· ||| ·) (.mem (.zpX z)) 4 s

/-- `ORA a`, opcode 0x0D: R107, mode R63. -/
def execOraAbs (a : Word) (s : State) : Result := logic (· ||| ·) (.mem (.abs a)) 4 s

/-- `ORA a,X`, opcode 0x1D: R107, mode R64. -/
def execOraAbsX (a : Word) (s : State) : Result := logic (· ||| ·) (.mem (.absX a)) 4 s

/-- `ORA a,Y`, opcode 0x19: R107, mode R65. -/
def execOraAbsY (a : Word) (s : State) : Result := logic (· ||| ·) (.mem (.absY a)) 4 s

/-- `ORA (z,X)`, opcode 0x01: R107, mode R67. -/
def execOraIndX (z : Byte) (s : State) : Result := logic (· ||| ·) (.mem (.indX z)) 6 s

/-- `ORA (z),Y`, opcode 0x11: R107, mode R68. -/
def execOraIndY (z : Byte) (s : State) : Result := logic (· ||| ·) (.mem (.indY z)) 5 s

/-- `EOR #v`, opcode 0x49: R108, mode R58. -/
def execEorImm (v : Byte) (s : State) : Result := logic (· ^^^ ·) (.imm v) 2 s

/-- `EOR z`, opcode 0x45: R108, mode R59. -/
def execEorZp (z : Byte) (s : State) : Result := logic (· ^^^ ·) (.mem (.zp z)) 3 s

/-- `EOR z,X`, opcode 0x55: R108, mode R60. -/
def execEorZpX (z : Byte) (s : State) : Result := logic (· ^^^ ·) (.mem (.zpX z)) 4 s

/-- `EOR a`, opcode 0x4D: R108, mode R63. -/
def execEorAbs (a : Word) (s : State) : Result := logic (· ^^^ ·) (.mem (.abs a)) 4 s

/-- `EOR a,X`, opcode 0x5D: R108, mode R64. -/
def execEorAbsX (a : Word) (s : State) : Result := logic (· ^^^ ·) (.mem (.absX a)) 4 s

/-- `EOR a,Y`, opcode 0x59: R108, mode R65. -/
def execEorAbsY (a : Word) (s : State) : Result := logic (· ^^^ ·) (.mem (.absY a)) 4 s

/-- `EOR (z,X)`, opcode 0x41: R108, mode R67. -/
def execEorIndX (z : Byte) (s : State) : Result := logic (· ^^^ ·) (.mem (.indX z)) 6 s

/-- `EOR (z),Y`, opcode 0x51: R108, mode R68. -/
def execEorIndY (z : Byte) (s : State) : Result := logic (· ^^^ ·) (.mem (.indY z)) 5 s

/-- `BIT z`, opcode 0x24: R109, mode R59. -/
def execBitZp (z : Byte) (s : State) : Result := bitTest (.mem (.zp z)) 3 s

/-- `BIT a`, opcode 0x2C: R109, mode R63. -/
def execBitAbs (a : Word) (s : State) : Result := bitTest (.mem (.abs a)) 4 s

/-- `ASL z`, opcode 0x06: R110, mode R59. -/
def execAslZp (z : Byte) (s : State) : Result := modifyPlace aslEffect (.mem (.zp z)) 5 s

/-- `ASL z,X`, opcode 0x16: R110, mode R60. -/
def execAslZpX (z : Byte) (s : State) : Result := modifyPlace aslEffect (.mem (.zpX z)) 6 s

/-- `ASL a`, opcode 0x0E: R110, mode R63. -/
def execAslAbs (a : Word) (s : State) : Result := modifyPlace aslEffect (.mem (.abs a)) 6 s

/-- `ASL a,X`, opcode 0x1E: R110, mode R64. -/
def execAslAbsX (a : Word) (s : State) : Result := modifyPlace aslEffect (.mem (.absX a)) 7 s

/-- `ASL A`, opcode 0x0A: R110, mode R57. -/
def execAslAcc (s : State) : Result := modifyPlace aslEffect .acc 2 s

/-- `LSR z`, opcode 0x46: R111, mode R59. -/
def execLsrZp (z : Byte) (s : State) : Result := modifyPlace lsrEffect (.mem (.zp z)) 5 s

/-- `LSR z,X`, opcode 0x56: R111, mode R60. -/
def execLsrZpX (z : Byte) (s : State) : Result := modifyPlace lsrEffect (.mem (.zpX z)) 6 s

/-- `LSR a`, opcode 0x4E: R111, mode R63. -/
def execLsrAbs (a : Word) (s : State) : Result := modifyPlace lsrEffect (.mem (.abs a)) 6 s

/-- `LSR a,X`, opcode 0x5E: R111, mode R64. -/
def execLsrAbsX (a : Word) (s : State) : Result := modifyPlace lsrEffect (.mem (.absX a)) 7 s

/-- `LSR A`, opcode 0x4A: R111, mode R57. -/
def execLsrAcc (s : State) : Result := modifyPlace lsrEffect .acc 2 s

/-- `ROL z`, opcode 0x26: R112, mode R59. -/
def execRolZp (z : Byte) (s : State) : Result := modifyPlace rolEffect (.mem (.zp z)) 5 s

/-- `ROL z,X`, opcode 0x36: R112, mode R60. -/
def execRolZpX (z : Byte) (s : State) : Result := modifyPlace rolEffect (.mem (.zpX z)) 6 s

/-- `ROL a`, opcode 0x2E: R112, mode R63. -/
def execRolAbs (a : Word) (s : State) : Result := modifyPlace rolEffect (.mem (.abs a)) 6 s

/-- `ROL a,X`, opcode 0x3E: R112, mode R64. -/
def execRolAbsX (a : Word) (s : State) : Result := modifyPlace rolEffect (.mem (.absX a)) 7 s

/-- `ROL A`, opcode 0x2A: R112, mode R57. -/
def execRolAcc (s : State) : Result := modifyPlace rolEffect .acc 2 s

/-- `ROR z`, opcode 0x66: R113, mode R59. -/
def execRorZp (z : Byte) (s : State) : Result := modifyPlace rorEffect (.mem (.zp z)) 5 s

/-- `ROR z,X`, opcode 0x76: R113, mode R60. -/
def execRorZpX (z : Byte) (s : State) : Result := modifyPlace rorEffect (.mem (.zpX z)) 6 s

/-- `ROR a`, opcode 0x6E: R113, mode R63. -/
def execRorAbs (a : Word) (s : State) : Result := modifyPlace rorEffect (.mem (.abs a)) 6 s

/-- `ROR a,X`, opcode 0x7E: R113, mode R64. -/
def execRorAbsX (a : Word) (s : State) : Result := modifyPlace rorEffect (.mem (.absX a)) 7 s

/-- `ROR A`, opcode 0x6A: R113, mode R57. -/
def execRorAcc (s : State) : Result := modifyPlace rorEffect .acc 2 s

end Sys2Proof.Machine
end

