-- ==== Sys2Proof/Machine/TransferStack.lean ====
section
/-! DEFINITION. Register transfers and stack instructions (41_transfer_stack.md, R79 to R88). All have the implied mode (R56). -/

namespace Sys2Proof.Machine

/-- `TAX`, opcode 0xAA: R79, mode R56. -/
def execTax (s : State) : Result := finish 2 ((s.setX s.a).setZN s.a)

/-- `TAY`, opcode 0xA8: R80, mode R56. -/
def execTay (s : State) : Result := finish 2 ((s.setY s.a).setZN s.a)

/-- `TXA`, opcode 0x8A: R81, mode R56. -/
def execTxa (s : State) : Result := finish 2 ((s.setA s.x).setZN s.x)

/-- `TYA`, opcode 0x98: R82, mode R56. -/
def execTya (s : State) : Result := finish 2 ((s.setA s.y).setZN s.y)

/-- `TSX`, opcode 0xBA: R83, mode R56. -/
def execTsx (s : State) : Result := finish 2 ((s.setX s.sp).setZN s.sp)

/-- `TXS`, opcode 0x9A: R84, mode R56. -/
def execTxs (s : State) : Result := finish 2 (s.setSp s.x)

/-- `PHA`, opcode 0x48: R85, mode R56. -/
def execPha (s : State) : Result := finish 3 (s.push s.a)

/-- `PHP`, opcode 0x08: R86, mode R56. -/
def execPhp (s : State) : Result := finish 3 (s.push (s.status ||| 0x30))

/-- `PLA`, opcode 0x68: R87, mode R56. -/
def execPla (s : State) : Result := 
  let v := s.pull
  finish 4 ((v.2.setA v.1).setZN v.1)

/-- `PLP`, opcode 0x28: R88, mode R56. -/
def execPlp (s : State) : Result := 
  let v := s.pull
  finish 4 (v.2.setFlags (Flags.ofByte v.1))

end Sys2Proof.Machine
end

