-- ==== Sys2Proof/Machine/Dispatch.lean ====
section
/-! DEFINITION. The meaning of every instruction: `Execute(row.mnemonic, ea)` and the accounting of R69, one arm per constructor of `Instr`. -/

namespace Sys2Proof.Machine

/-- The effect of an instruction whose bytes have been fetched: PC is the address of the next sequential instruction (R15, R69). -/
def exec (i : Instr) (s : State) : Host.Outcome State Fault Refusal :=
  match i with
  | .ldaImm v => Sys2Proof.Machine.execLdaImm v s
  | .ldaZp z => Sys2Proof.Machine.execLdaZp z s
  | .ldaZpX z => Sys2Proof.Machine.execLdaZpX z s
  | .ldaAbs a => Sys2Proof.Machine.execLdaAbs a s
  | .ldaAbsX a => Sys2Proof.Machine.execLdaAbsX a s
  | .ldaAbsY a => Sys2Proof.Machine.execLdaAbsY a s
  | .ldaIndX z => Sys2Proof.Machine.execLdaIndX z s
  | .ldaIndY z => Sys2Proof.Machine.execLdaIndY z s
  | .ldxImm v => Sys2Proof.Machine.execLdxImm v s
  | .ldxZp z => Sys2Proof.Machine.execLdxZp z s
  | .ldxZpY z => Sys2Proof.Machine.execLdxZpY z s
  | .ldxAbs a => Sys2Proof.Machine.execLdxAbs a s
  | .ldxAbsY a => Sys2Proof.Machine.execLdxAbsY a s
  | .ldyImm v => Sys2Proof.Machine.execLdyImm v s
  | .ldyZp z => Sys2Proof.Machine.execLdyZp z s
  | .ldyZpX z => Sys2Proof.Machine.execLdyZpX z s
  | .ldyAbs a => Sys2Proof.Machine.execLdyAbs a s
  | .ldyAbsX a => Sys2Proof.Machine.execLdyAbsX a s
  | .staZp z => Sys2Proof.Machine.execStaZp z s
  | .staZpX z => Sys2Proof.Machine.execStaZpX z s
  | .staAbs a => Sys2Proof.Machine.execStaAbs a s
  | .staAbsX a => Sys2Proof.Machine.execStaAbsX a s
  | .staAbsY a => Sys2Proof.Machine.execStaAbsY a s
  | .staIndX z => Sys2Proof.Machine.execStaIndX z s
  | .staIndY z => Sys2Proof.Machine.execStaIndY z s
  | .stxZp z => Sys2Proof.Machine.execStxZp z s
  | .stxZpY z => Sys2Proof.Machine.execStxZpY z s
  | .stxAbs a => Sys2Proof.Machine.execStxAbs a s
  | .styZp z => Sys2Proof.Machine.execStyZp z s
  | .styZpX z => Sys2Proof.Machine.execStyZpX z s
  | .styAbs a => Sys2Proof.Machine.execStyAbs a s
  | .tax => Sys2Proof.Machine.execTax s
  | .tay => Sys2Proof.Machine.execTay s
  | .txa => Sys2Proof.Machine.execTxa s
  | .tya => Sys2Proof.Machine.execTya s
  | .tsx => Sys2Proof.Machine.execTsx s
  | .txs => Sys2Proof.Machine.execTxs s
  | .pha => Sys2Proof.Machine.execPha s
  | .php => Sys2Proof.Machine.execPhp s
  | .pla => Sys2Proof.Machine.execPla s
  | .plp => Sys2Proof.Machine.execPlp s
  | .adcImm v => Sys2Proof.Machine.execAdcImm v s
  | .adcZp z => Sys2Proof.Machine.execAdcZp z s
  | .adcZpX z => Sys2Proof.Machine.execAdcZpX z s
  | .adcAbs a => Sys2Proof.Machine.execAdcAbs a s
  | .adcAbsX a => Sys2Proof.Machine.execAdcAbsX a s
  | .adcAbsY a => Sys2Proof.Machine.execAdcAbsY a s
  | .adcIndX z => Sys2Proof.Machine.execAdcIndX z s
  | .adcIndY z => Sys2Proof.Machine.execAdcIndY z s
  | .sbcImm v => Sys2Proof.Machine.execSbcImm v s
  | .sbcZp z => Sys2Proof.Machine.execSbcZp z s
  | .sbcZpX z => Sys2Proof.Machine.execSbcZpX z s
  | .sbcAbs a => Sys2Proof.Machine.execSbcAbs a s
  | .sbcAbsX a => Sys2Proof.Machine.execSbcAbsX a s
  | .sbcAbsY a => Sys2Proof.Machine.execSbcAbsY a s
  | .sbcIndX z => Sys2Proof.Machine.execSbcIndX z s
  | .sbcIndY z => Sys2Proof.Machine.execSbcIndY z s
  | .sbcImmEB v => Sys2Proof.Machine.execSbcImmEB v s
  | .cmpImm v => Sys2Proof.Machine.execCmpImm v s
  | .cmpZp z => Sys2Proof.Machine.execCmpZp z s
  | .cmpZpX z => Sys2Proof.Machine.execCmpZpX z s
  | .cmpAbs a => Sys2Proof.Machine.execCmpAbs a s
  | .cmpAbsX a => Sys2Proof.Machine.execCmpAbsX a s
  | .cmpAbsY a => Sys2Proof.Machine.execCmpAbsY a s
  | .cmpIndX z => Sys2Proof.Machine.execCmpIndX z s
  | .cmpIndY z => Sys2Proof.Machine.execCmpIndY z s
  | .cpxImm v => Sys2Proof.Machine.execCpxImm v s
  | .cpxZp z => Sys2Proof.Machine.execCpxZp z s
  | .cpxAbs a => Sys2Proof.Machine.execCpxAbs a s
  | .cpyImm v => Sys2Proof.Machine.execCpyImm v s
  | .cpyZp z => Sys2Proof.Machine.execCpyZp z s
  | .cpyAbs a => Sys2Proof.Machine.execCpyAbs a s
  | .incZp z => Sys2Proof.Machine.execIncZp z s
  | .incZpX z => Sys2Proof.Machine.execIncZpX z s
  | .incAbs a => Sys2Proof.Machine.execIncAbs a s
  | .incAbsX a => Sys2Proof.Machine.execIncAbsX a s
  | .decZp z => Sys2Proof.Machine.execDecZp z s
  | .decZpX z => Sys2Proof.Machine.execDecZpX z s
  | .decAbs a => Sys2Proof.Machine.execDecAbs a s
  | .decAbsX a => Sys2Proof.Machine.execDecAbsX a s
  | .inx => Sys2Proof.Machine.execInx s
  | .iny => Sys2Proof.Machine.execIny s
  | .dex => Sys2Proof.Machine.execDex s
  | .dey => Sys2Proof.Machine.execDey s
  | .andImm v => Sys2Proof.Machine.execAndImm v s
  | .andZp z => Sys2Proof.Machine.execAndZp z s
  | .andZpX z => Sys2Proof.Machine.execAndZpX z s
  | .andAbs a => Sys2Proof.Machine.execAndAbs a s
  | .andAbsX a => Sys2Proof.Machine.execAndAbsX a s
  | .andAbsY a => Sys2Proof.Machine.execAndAbsY a s
  | .andIndX z => Sys2Proof.Machine.execAndIndX z s
  | .andIndY z => Sys2Proof.Machine.execAndIndY z s
  | .oraImm v => Sys2Proof.Machine.execOraImm v s
  | .oraZp z => Sys2Proof.Machine.execOraZp z s
  | .oraZpX z => Sys2Proof.Machine.execOraZpX z s
  | .oraAbs a => Sys2Proof.Machine.execOraAbs a s
  | .oraAbsX a => Sys2Proof.Machine.execOraAbsX a s
  | .oraAbsY a => Sys2Proof.Machine.execOraAbsY a s
  | .oraIndX z => Sys2Proof.Machine.execOraIndX z s
  | .oraIndY z => Sys2Proof.Machine.execOraIndY z s
  | .eorImm v => Sys2Proof.Machine.execEorImm v s
  | .eorZp z => Sys2Proof.Machine.execEorZp z s
  | .eorZpX z => Sys2Proof.Machine.execEorZpX z s
  | .eorAbs a => Sys2Proof.Machine.execEorAbs a s
  | .eorAbsX a => Sys2Proof.Machine.execEorAbsX a s
  | .eorAbsY a => Sys2Proof.Machine.execEorAbsY a s
  | .eorIndX z => Sys2Proof.Machine.execEorIndX z s
  | .eorIndY z => Sys2Proof.Machine.execEorIndY z s
  | .bitZp z => Sys2Proof.Machine.execBitZp z s
  | .bitAbs a => Sys2Proof.Machine.execBitAbs a s
  | .aslZp z => Sys2Proof.Machine.execAslZp z s
  | .aslZpX z => Sys2Proof.Machine.execAslZpX z s
  | .aslAbs a => Sys2Proof.Machine.execAslAbs a s
  | .aslAbsX a => Sys2Proof.Machine.execAslAbsX a s
  | .aslAcc => Sys2Proof.Machine.execAslAcc s
  | .lsrZp z => Sys2Proof.Machine.execLsrZp z s
  | .lsrZpX z => Sys2Proof.Machine.execLsrZpX z s
  | .lsrAbs a => Sys2Proof.Machine.execLsrAbs a s
  | .lsrAbsX a => Sys2Proof.Machine.execLsrAbsX a s
  | .lsrAcc => Sys2Proof.Machine.execLsrAcc s
  | .rolZp z => Sys2Proof.Machine.execRolZp z s
  | .rolZpX z => Sys2Proof.Machine.execRolZpX z s
  | .rolAbs a => Sys2Proof.Machine.execRolAbs a s
  | .rolAbsX a => Sys2Proof.Machine.execRolAbsX a s
  | .rolAcc => Sys2Proof.Machine.execRolAcc s
  | .rorZp z => Sys2Proof.Machine.execRorZp z s
  | .rorZpX z => Sys2Proof.Machine.execRorZpX z s
  | .rorAbs a => Sys2Proof.Machine.execRorAbs a s
  | .rorAbsX a => Sys2Proof.Machine.execRorAbsX a s
  | .rorAcc => Sys2Proof.Machine.execRorAcc s
  | .jmpAbs a => Sys2Proof.Machine.execJmpAbs a s
  | .jmpInd a => Sys2Proof.Machine.execJmpInd a s
  | .jsr a => Sys2Proof.Machine.execJsr a s
  | .rts => Sys2Proof.Machine.execRts s
  | .rti => Sys2Proof.Machine.execRti s
  | .brk => Sys2Proof.Machine.execBrk s
  | .bpl r => Sys2Proof.Machine.execBpl r s
  | .bmi r => Sys2Proof.Machine.execBmi r s
  | .bvc r => Sys2Proof.Machine.execBvc r s
  | .bvs r => Sys2Proof.Machine.execBvs r s
  | .bcc r => Sys2Proof.Machine.execBcc r s
  | .bcs r => Sys2Proof.Machine.execBcs r s
  | .bne r => Sys2Proof.Machine.execBne r s
  | .beq r => Sys2Proof.Machine.execBeq r s
  | .nop => Sys2Proof.Machine.execNop s
  | .clc => Sys2Proof.Machine.execClc s
  | .sec => Sys2Proof.Machine.execSec s
  | .cli => Sys2Proof.Machine.execCli s
  | .sei => Sys2Proof.Machine.execSei s
  | .cld => Sys2Proof.Machine.execCld s
  | .sed => Sys2Proof.Machine.execSed s
  | .clv => Sys2Proof.Machine.execClv s
  | .invalid op => Sys2Proof.Machine.execInvalid op s

end Sys2Proof.Machine
end

