-- ==== Sys2Proof/Machine/Fetch.lean ====
section
/-! DEFINITION. Fetching an instruction through the CPU read path (R33, R69), and placing one where the next fetch reads it. -/

namespace Sys2Proof.Machine

/-- One fetched byte: `MemRead(PC, 1); PC <- PC + 1` (R15, R69). -/
def State.fetchByte (s : State) : Byte × State :=
  let b := s.memRead s.pc
  (b.1, b.2.setPc (b.2.pc + 1))

/-- The instruction at PC and the state after its bytes are fetched (phases 2 and 3 of R69 and the operand fetches of R58 to R68): PC is the address of the next sequential instruction, and every byte read from the input port has been dequeued. A byte without a row fetches no operand (R55). -/
def State.fetch (s : State) : Instr × State :=
  let op := s.fetchByte
  match decodeRow op.1 with
  | none => (.invalid op.1, op.2)
  | some (.bare i) => (i, op.2)
  | some (.one f) =>
    let b := op.2.fetchByte
    (f b.1, b.2)
  | some (.two f) =>
    let lo := op.2.fetchByte
    let hi := lo.2.fetchByte
    (f (wordOf hi.1 lo.1), hi.2)

/-- The byte `b` placed where a fetch at `addr` reads it: in front of the input queue for the input port, else in the store the bus routes to. An address without a store keeps reading 0xFF. Log entry 14. -/
def State.placeByte (s : State) (addr : Word) (b : Byte) : State :=
  if addr = serialIn then { s with inq := b :: s.inq.take (Config.qcap - 1) }
  else
    match route s.bus addr with
    | some .monitoredRam => { s with mem := s.mem.write addr.toNat b }
    | some .plainRam => s.plainWrite addr b
    | none => s

/-- Bytes placed at rising addresses. -/
def State.placeBytes (s : State) (addr : Word) : List Byte → State
  | [] => s
  | b :: bs => (s.placeByte addr b).placeBytes (addr + 1) bs

/-- Nothing stands before the next fetch: the core may step and no interrupt is due (R69). -/
def State.ready (s : State) : State :=
  { s with halted := false, paused := false, nmiPending := false, irqPending := s.irqPending && s.flags.i }

end Sys2Proof.Machine
end

