-- ==== Sys2Proof/Machine/StepOnce.lean ====
section
/-! DEFINITION. The body of `Step()` (R69). -/

namespace Sys2Proof.Machine

/-- One step of a core that may step (R69): an interrupt entry of 7 cycles and no instruction (R139, C1), or the fetch of an instruction and its meaning. -/
def stepOnce (s : State) : Result :=
  match s.interruptSample with
  | some entered => finish 7 entered
  | none =>
    let f := s.fetch
    exec f.1 f.2

end Sys2Proof.Machine
end

