-- ==== Sys2Proof/Machine/Step.lean ====
section
/-! DEFINITION. One step of the run loop (R69, R152), and the state whose next step runs a given instruction. -/

namespace Sys2Proof.Machine

/-- One step of the run loop. While `halted` there is no step (R20, U2: `stuck`). While `paused` the emulation thread blocks and every piece of state is kept (R152): the state does not change; DEDUCED, safe, log entry 8. Otherwise one step of R69. -/
def step (s : State) : Host.Outcome State Fault Refusal :=
  if s.halted then .fault .halted
  else if s.paused then .next s
  else stepOnce s

/-- `s` with the instruction of the `nbits`-bit number `w` stored at PC, and nothing that keeps the next step from fetching it. Log entry 14. -/
def State.withFetchWord (s : State) (nbits w : Nat) : State := s.ready.placeBytes s.pc (tableBytes nbits w)

end Sys2Proof.Machine
end

