-- ==== Sys2Proof/Machine/HostActions.lean ====
section
/-! DEFINITION. The host's actions on the block (R153), the only ways its state changes other than by steps of the run loop; `load_program` (R156), the boot sequence with its check (R157) and the launch (R159). Host actions happen between steps (R46, R50, R143): a schedule is any list of them (U8, U9). DEDUCED, log entry 9. -/

namespace Sys2Proof.Machine

/-- The registers `snapshot_registers()` reads (R153). -/
structure Registers where
  a : Byte
  x : Byte
  y : Byte
  sp : Byte
  pc : Word
  p : Byte
  deriving DecidableEq, Repr

/-- What a host action returns to its caller (R153, R156, R148). -/
inductive HostReply where
  /-- Nothing to return, or `Ok` of `load_program`. -/
  | done
  /-- What `step()` returns. -/
  | stepped (r : Report)
  /-- The byte of `read_byte`. -/
  | byte (b : Byte)
  /-- `some(b)` or `none` of `pop_output`. -/
  | popped (b : Option Byte)
  /-- The registers of `snapshot_registers`. -/
  | registers (r : Registers)
  /-- `ReadFailed`: an empty image (R156), or a vector that does not read back (R157). -/
  | readFailed
  /-- `MemoryOverflow`: an image past 0xFFFF (R156). -/
  | memoryOverflow
  /-- `QueueFull`: `push_input` on a full queue (R148, U16). -/
  | queueFull
  deriving DecidableEq, Repr

/-- The actions of R153. -/
inductive HostAction where
  /-- `step()`: one step, paused or not. -/
  | step
  /-- `run()`: clears `paused`; its steps are `step` actions or steps of the run loop. -/
  | run
  /-- `pause()`: sets `paused`. -/
  | pause
  /-- resume: clears `paused`. -/
  | resume
  /-- `reset()` (R155). -/
  | reset
  /-- `load_program(bytes, base)` (R156). -/
  | loadProgram (bytes : List Byte) (base : Word)
  /-- `set_pc(v)`, only while paused (D32). -/
  | setPc (v : Word)
  /-- `set_frequency(hz)`: pacing only (R165). -/
  | setFrequency (hz : Nat)
  /-- `inject_irq()` (R138). -/
  | injectIrq
  /-- `inject_nmi()` (R138). -/
  | injectNmi
  /-- `write_byte(addr, b)`: `BusWrite`, without the CPU's interception (R50, D12). -/
  | writeByte (addr : Word) (b : Byte)
  /-- `read_byte(addr)`: `BusRead` (R50, D12). -/
  | readByte (addr : Word)
  /-- `push_input(b)`: `enqueue(inq, b)` (R148). -/
  | pushInput (b : Byte)
  /-- `pop_output()`: `dequeue(outq)` (R148). -/
  | popOutput
  /-- `snapshot_registers()`, only while paused (R150). -/
  | snapshotRegisters
  /-- `set_debug(on)`: tracing only (R71). -/
  | setDebug (on : Bool)
  deriving DecidableEq, Repr

/-- The bytes of an image written through the bus at rising addresses, so that the hooks fire (R156). -/
def State.busWriteBytes (s : State) (addr : Word) : List Byte → State
  | [] => s
  | b :: bs => (s.busWrite addr b).busWriteBytes (addr + 1) bs

/-- `LoadProgram(bytes, base)` (R156): nothing is written on an error. -/
def State.loadProgram (s : State) (bytes : List Byte) (base : Word) : State × HostReply :=
  if bytes.isEmpty then (s, .readFailed)
  else if 0x10000 < base.toNat + bytes.length then (s, .memoryOverflow)
  else
    (((s.busWriteBytes base bytes).busWrite vectorReset (loByte base)).busWrite (vectorReset + 1) (hiByte base), .done)

/-- The registers of the state. -/
def State.registers (s : State) : Registers := { a := s.a, x := s.x, y := s.y, sp := s.sp, pc := s.pc, p := s.status }

/-- How a host action ends: a state and a reply, a stop of the machine, or a refusal (no move). -/
abbrev HostResult := Host.Outcome (State × HostReply) Fault Refusal

/-- The host's `step()`: one step of R69, paused or not (R151, R153); none while halted. DEDUCED, safe, log entry 8. -/
def hostStep (s : State) : HostResult :=
  if s.halted then .fault .halted
  else
    match stepOnce s with
    | .next t => .next (t, .stepped t.report)
    | .fault r => .fault r
    | .refused r => .refused r

/-- The effect and the reply of each action of R153. -/
def hostAct (act : HostAction) (s : State) : HostResult :=
  match act with
  | .step => hostStep s
  | .run => .next ({ s with paused := false }, .done)
  | .pause => .next ({ s with paused := true }, .done)
  | .resume => .next ({ s with paused := false }, .done)
  | .reset => .next (s.hostReset, .done)
  | .loadProgram bytes base => .next (s.loadProgram bytes base)
  | .setPc v => if s.paused then .next (s.setPc v, .done) else .refused .notPaused
  | .setFrequency hz => if hz = 0 then .refused .frequencyNotPositive else .next ({ s with freqHz := hz }, .done)
  | .injectIrq => .next ({ s with irqPending := true }, .done)
  | .injectNmi => .next ({ s with nmiPending := true }, .done)
  | .writeByte addr b => .next (s.busWrite addr b, .done)
  | .readByte addr => .next (s, .byte (s.busRead addr))
  | .pushInput b => if s.inq.length < Config.qcap then .next ({ s with inq := enqueue s.inq b }, .done) else .next (s, .queueFull)
  | .popOutput =>
    let d := dequeue s.outq
    .next ({ s with outq := d.2 }, .popped d.1)
  | .snapshotRegisters => if s.paused then .next (s, .registers s.registers) else .refused .notPaused
  | .setDebug on => .next ({ s with debug := on }, .done)

/-- What the environment does next: the run loop steps, or the host acts. -/
inductive Event where
  | runLoop
  | host (act : HostAction)
  deriving DecidableEq, Repr

/-- The state after an event; an action without a move leaves the state as it is. -/
def eventAfter (e : Event) (s : State) : State :=
  match e with
  | .runLoop =>
    match step s with
    | .next t => t
    | .fault _ => s
    | .refused _ => s
  | .host act =>
    match hostAct act s with
    | .next t => t.1
    | .fault _ => s
    | .refused _ => s

/-- The state after a schedule of events (U9: every interleaving between steps is admitted). -/
def runEvents (s : State) (es : List Event) : State := es.foldl (fun t e => eventAfter e t) s

/-- Load, `reset()`, and the check that PC is the base address (R157, R158): the reply is `ReadFailed` if it is not. -/
def State.bootProgram (s : State) (bytes : List Byte) (base : Word) : State × HostReply :=
  let loaded := s.loadProgram bytes base
  if loaded.2 = .done then
    let started := loaded.1.hostReset
    (started, if started.pc = base then .done else .readFailed)
  else loaded

/-- A launch (R159): `reset()` from the memory image `image` (a canonical cell list) of a block freshly initialised with the defaults, with the input bytes the host has pushed before the first step. -/
def State.launch (image : Memory) (input : List Byte) : State :=
  { (State.init defaultBus Params.default image []).hostReset with inq := enqueueAll [] input }

end Sys2Proof.Machine
end

