-- ==== Sys2Proof/Machine/RunEnd.lean ====
section
/-! DEFINITION. The end of a run (R160) as an observation, and the conformance test of R161 with its parameter `DORMANN_PASS_ADDR`. The core itself never stops at the end of a run: log entry 15. -/

namespace Sys2Proof.Machine

/-- How a run ends (R160). -/
inductive RunEnd where
  /-- A jump to its own address; the end address is PC. -/
  | normal (pc : Word)
  /-- `InvalidOpcode`; the end address is the reported `pc`. -/
  | faulted (pc : Word) (op : Byte)
  deriving DecidableEq, Repr

/-- The instructions that end a run when they leave PC at their own address: JMP and the branches (R160). -/
def endsOnSelfJump : Instr → Bool
  | .jmpAbs _ | .jmpInd _ | .bpl _ | .bmi _ | .bvc _ | .bvs _ | .bcc _ | .bcs _ | .bne _ | .beq _ => true
  | _ => false

/-- Whether the step of R69 from `s` ends the run, and how (R160), be it the run loop's or the host's `step()`, paused or not (R153). A halted core has no step. -/
def endOfRun (s : State) : Option RunEnd :=
  if s.halted then none
  else
    match s.interruptSample with
    | some _ => none
    | none =>
      let f := s.fetch
      match exec f.1 f.2 with
      | .next t =>
        match t.report with
        | .invalidOpcode pc op => some (.faulted pc op)
        | _ => if endsOnSelfJump f.1 && t.pc == s.pc then some (.normal s.pc) else none
      | .fault _ => none
      | .refused _ => none

/-- The end of the run within `n` steps from `s`: that of the first step that has one (R160). -/
def firstEnd : Nat → State → Option RunEnd
  | 0, _ => none
  | n + 1, s =>
    match endOfRun s with
    | some e => some e
    | none =>
      match hostStep s with
      | .next t => firstEnd n t.1
      | .fault _ => none
      | .refused _ => none

/-- The conformance test of R161: the launch of an image whose reset vector is 0x0400 comes to a normal end at `passAddr`. The address is the open parameter `DORMANN_PASS_ADDR` (R6, D35): an argument, never a value of the model's. -/
def dormannPasses (passAddr : Word) (image : Memory) : Prop :=
  image.read vectorReset.toNat = 0x00 ∧ image.read (vectorReset + 1).toNat = 0x04 ∧
  ∃ n, firstEnd n (State.launch image []) = some (.normal passAddr)

end Sys2Proof.Machine
end

