-- ==== Sys2Proof/Safety.lean ====
section
/-! DEFINITION. The terms claims are stated in: the invariant of the state; the end of a run (R160) is in Sys2Proof/Machine/RunEnd.lean. -/

namespace Sys2Proof.Machine

/-- A routing entry with start ≤ end (R36). -/
def BusEntry.wf (e : BusEntry) : Bool := e.first ≤ e.last

/-- The invariant every step and every host action keeps: both stores are canonical (every address in the 64 KiB space, R22, R26), both queues hold at most QCAP bytes (R23), and the configuration is legal (R36: at most 16 entries with start ≤ end; R6: FREQ_HZ > 0, PLAIN_RAM_SIZE a power of two). -/
structure State.Inv (s : State) : Prop where
  mem_wf : s.mem.wf = true
  plain_wf : s.plain.wf = true
  inq_le : s.inq.length ≤ Config.qcap
  outq_le : s.outq.length ≤ Config.qcap
  bus_le : s.bus.length ≤ Config.busMaxEntries
  bus_wf : s.bus.all BusEntry.wf = true
  freq_pos : 0 < s.freqHz
  plain_size : ∃ k, s.params.plainRamSize = 2 ^ k

end Sys2Proof.Machine
end

