-- ==== Sys2Proof/Certificates/Slice0/Obligations.lean ====
section
/-! DEFINITION. The statements for the provers, and the tables and words they are stated in: the rows of the decode table of R53 as the statements quote them, Z and N of a result, the accounting of a step. -/

open Sys2Proof Sys2Proof.Machine

namespace Sys2Proof.Spec

/-- A row of the decode table of R53: an instruction, its operand as the machine names it, its opcode byte and its base cycles. -/
structure Row (α : Type) where
  instr : Instr
  operand : α
  opcode : Byte
  base : Nat

/-- The instruction's first byte is the row's opcode. -/
def Row.encoded {α : Type} (r : Row α) : Prop := (encode r.instr).head? = some r.opcode

/-- The rows of LDA in the decode table of R53. -/
def ldaRows (v : Byte) (z : Byte) (a : Word) : List (Row Source) :=
  [ ⟨.ldaImm v, .imm v, 0xA9, 2⟩,
    ⟨.ldaZp z, .mem (.zp z), 0xA5, 3⟩,
    ⟨.ldaZpX z, .mem (.zpX z), 0xB5, 4⟩,
    ⟨.ldaAbs a, .mem (.abs a), 0xAD, 4⟩,
    ⟨.ldaAbsX a, .mem (.absX a), 0xBD, 4⟩,
    ⟨.ldaAbsY a, .mem (.absY a), 0xB9, 4⟩,
    ⟨.ldaIndX z, .mem (.indX z), 0xA1, 6⟩,
    ⟨.ldaIndY z, .mem (.indY z), 0xB1, 5⟩ ]

/-- The rows of LDX in the decode table of R53. -/
def ldxRows (v : Byte) (z : Byte) (a : Word) : List (Row Source) :=
  [ ⟨.ldxImm v, .imm v, 0xA2, 2⟩,
    ⟨.ldxZp z, .mem (.zp z), 0xA6, 3⟩,
    ⟨.ldxZpY z, .mem (.zpY z), 0xB6, 4⟩,
    ⟨.ldxAbs a, .mem (.abs a), 0xAE, 4⟩,
    ⟨.ldxAbsY a, .mem (.absY a), 0xBE, 4⟩ ]

/-- The rows of LDY in the decode table of R53. -/
def ldyRows (v : Byte) (z : Byte) (a : Word) : List (Row Source) :=
  [ ⟨.ldyImm v, .imm v, 0xA0, 2⟩,
    ⟨.ldyZp z, .mem (.zp z), 0xA4, 3⟩,
    ⟨.ldyZpX z, .mem (.zpX z), 0xB4, 4⟩,
    ⟨.ldyAbs a, .mem (.abs a), 0xAC, 4⟩,
    ⟨.ldyAbsX a, .mem (.absX a), 0xBC, 4⟩ ]

/-- The rows of STA in the decode table of R53. -/
def staRows (z : Byte) (a : Word) : List (Row MemOperand) :=
  [ ⟨.staZp z, .zp z, 0x85, 3⟩,
    ⟨.staZpX z, .zpX z, 0x95, 4⟩,
    ⟨.staAbs a, .abs a, 0x8D, 4⟩,
    ⟨.staAbsX a, .absX a, 0x9D, 5⟩,
    ⟨.staAbsY a, .absY a, 0x99, 5⟩,
    ⟨.staIndX z, .indX z, 0x81, 6⟩,
    ⟨.staIndY z, .indY z, 0x91, 6⟩ ]

/-- The rows of STX in the decode table of R53. -/
def stxRows (z : Byte) (a : Word) : List (Row MemOperand) :=
  [ ⟨.stxZp z, .zp z, 0x86, 3⟩,
    ⟨.stxZpY z, .zpY z, 0x96, 4⟩,
    ⟨.stxAbs a, .abs a, 0x8E, 4⟩ ]

/-- The rows of STY in the decode table of R53. -/
def styRows (z : Byte) (a : Word) : List (Row MemOperand) :=
  [ ⟨.styZp z, .zp z, 0x84, 3⟩,
    ⟨.styZpX z, .zpX z, 0x94, 4⟩,
    ⟨.styAbs a, .abs a, 0x8C, 4⟩ ]

/-- The rows of ADC in the decode table of R53. -/
def adcRows (v : Byte) (z : Byte) (a : Word) : List (Row Source) :=
  [ ⟨.adcImm v, .imm v, 0x69, 2⟩,
    ⟨.adcZp z, .mem (.zp z), 0x65, 3⟩,
    ⟨.adcZpX z, .mem (.zpX z), 0x75, 4⟩,
    ⟨.adcAbs a, .mem (.abs a), 0x6D, 4⟩,
    ⟨.adcAbsX a, .mem (.absX a), 0x7D, 4⟩,
    ⟨.adcAbsY a, .mem (.absY a), 0x79, 4⟩,
    ⟨.adcIndX z, .mem (.indX z), 0x61, 6⟩,
    ⟨.adcIndY z, .mem (.indY z), 0x71, 5⟩ ]

/-- The rows of SBC in the decode table of R53. -/
def sbcRows (v : Byte) (z : Byte) (a : Word) : List (Row Source) :=
  [ ⟨.sbcImm v, .imm v, 0xE9, 2⟩,
    ⟨.sbcZp z, .mem (.zp z), 0xE5, 3⟩,
    ⟨.sbcZpX z, .mem (.zpX z), 0xF5, 4⟩,
    ⟨.sbcAbs a, .mem (.abs a), 0xED, 4⟩,
    ⟨.sbcAbsX a, .mem (.absX a), 0xFD, 4⟩,
    ⟨.sbcAbsY a, .mem (.absY a), 0xF9, 4⟩,
    ⟨.sbcIndX z, .mem (.indX z), 0xE1, 6⟩,
    ⟨.sbcIndY z, .mem (.indY z), 0xF1, 5⟩,
    ⟨.sbcImmEB v, .imm v, 0xEB, 2⟩ ]

/-- The rows of CMP in the decode table of R53. -/
def cmpRows (v : Byte) (z : Byte) (a : Word) : List (Row Source) :=
  [ ⟨.cmpImm v, .imm v, 0xC9, 2⟩,
    ⟨.cmpZp z, .mem (.zp z), 0xC5, 3⟩,
    ⟨.cmpZpX z, .mem (.zpX z), 0xD5, 4⟩,
    ⟨.cmpAbs a, .mem (.abs a), 0xCD, 4⟩,
    ⟨.cmpAbsX a, .mem (.absX a), 0xDD, 4⟩,
    ⟨.cmpAbsY a, .mem (.absY a), 0xD9, 4⟩,
    ⟨.cmpIndX z, .mem (.indX z), 0xC1, 6⟩,
    ⟨.cmpIndY z, .mem (.indY z), 0xD1, 5⟩ ]

/-- The rows of CPX in the decode table of R53. -/
def cpxRows (v : Byte) (z : Byte) (a : Word) : List (Row Source) :=
  [ ⟨.cpxImm v, .imm v, 0xE0, 2⟩,
    ⟨.cpxZp z, .mem (.zp z), 0xE4, 3⟩,
    ⟨.cpxAbs a, .mem (.abs a), 0xEC, 4⟩ ]

/-- The rows of CPY in the decode table of R53. -/
def cpyRows (v : Byte) (z : Byte) (a : Word) : List (Row Source) :=
  [ ⟨.cpyImm v, .imm v, 0xC0, 2⟩,
    ⟨.cpyZp z, .mem (.zp z), 0xC4, 3⟩,
    ⟨.cpyAbs a, .mem (.abs a), 0xCC, 4⟩ ]

/-- The rows of INC in the decode table of R53. -/
def incRows (z : Byte) (a : Word) : List (Row MemOperand) :=
  [ ⟨.incZp z, .zp z, 0xE6, 5⟩,
    ⟨.incZpX z, .zpX z, 0xF6, 6⟩,
    ⟨.incAbs a, .abs a, 0xEE, 6⟩,
    ⟨.incAbsX a, .absX a, 0xFE, 7⟩ ]

/-- The rows of DEC in the decode table of R53. -/
def decRows (z : Byte) (a : Word) : List (Row MemOperand) :=
  [ ⟨.decZp z, .zp z, 0xC6, 5⟩,
    ⟨.decZpX z, .zpX z, 0xD6, 6⟩,
    ⟨.decAbs a, .abs a, 0xCE, 6⟩,
    ⟨.decAbsX a, .absX a, 0xDE, 7⟩ ]

/-- The rows of AND in the decode table of R53. -/
def andRows (v : Byte) (z : Byte) (a : Word) : List (Row Source) :=
  [ ⟨.andImm v, .imm v, 0x29, 2⟩,
    ⟨.andZp z, .mem (.zp z), 0x25, 3⟩,
    ⟨.andZpX z, .mem (.zpX z), 0x35, 4⟩,
    ⟨.andAbs a, .mem (.abs a), 0x2D, 4⟩,
    ⟨.andAbsX a, .mem (.absX a), 0x3D, 4⟩,
    ⟨.andAbsY a, .mem (.absY a), 0x39, 4⟩,
    ⟨.andIndX z, .mem (.indX z), 0x21, 6⟩,
    ⟨.andIndY z, .mem (.indY z), 0x31, 5⟩ ]

/-- The rows of ORA in the decode table of R53. -/
def oraRows (v : Byte) (z : Byte) (a : Word) : List (Row Source) :=
  [ ⟨.oraImm v, .imm v, 0x09, 2⟩,
    ⟨.oraZp z, .mem (.zp z), 0x05, 3⟩,
    ⟨.oraZpX z, .mem (.zpX z), 0x15, 4⟩,
    ⟨.oraAbs a, .mem (.abs a), 0x0D, 4⟩,
    ⟨.oraAbsX a, .mem (.absX a), 0x1D, 4⟩,
    ⟨.oraAbsY a, .mem (.absY a), 0x19, 4⟩,
    ⟨.oraIndX z, .mem (.indX z), 0x01, 6⟩,
    ⟨.oraIndY z, .mem (.indY z), 0x11, 5⟩ ]

/-- The rows of EOR in the decode table of R53. -/
def eorRows (v : Byte) (z : Byte) (a : Word) : List (Row Source) :=
  [ ⟨.eorImm v, .imm v, 0x49, 2⟩,
    ⟨.eorZp z, .mem (.zp z), 0x45, 3⟩,
    ⟨.eorZpX z, .mem (.zpX z), 0x55, 4⟩,
    ⟨.eorAbs a, .mem (.abs a), 0x4D, 4⟩,
    ⟨.eorAbsX a, .mem (.absX a), 0x5D, 4⟩,
    ⟨.eorAbsY a, .mem (.absY a), 0x59, 4⟩,
    ⟨.eorIndX z, .mem (.indX z), 0x41, 6⟩,
    ⟨.eorIndY z, .mem (.indY z), 0x51, 5⟩ ]

/-- The rows of BIT in the decode table of R53. -/
def bitRows (z : Byte) (a : Word) : List (Row Source) :=
  [ ⟨.bitZp z, .mem (.zp z), 0x24, 3⟩,
    ⟨.bitAbs a, .mem (.abs a), 0x2C, 4⟩ ]

/-- The rows of ASL on memory in the decode table of R53. -/
def aslRows (z : Byte) (a : Word) : List (Row MemOperand) :=
  [ ⟨.aslZp z, .zp z, 0x06, 5⟩,
    ⟨.aslZpX z, .zpX z, 0x16, 6⟩,
    ⟨.aslAbs a, .abs a, 0x0E, 6⟩,
    ⟨.aslAbsX a, .absX a, 0x1E, 7⟩ ]

/-- The rows of LSR on memory in the decode table of R53. -/
def lsrRows (z : Byte) (a : Word) : List (Row MemOperand) :=
  [ ⟨.lsrZp z, .zp z, 0x46, 5⟩,
    ⟨.lsrZpX z, .zpX z, 0x56, 6⟩,
    ⟨.lsrAbs a, .abs a, 0x4E, 6⟩,
    ⟨.lsrAbsX a, .absX a, 0x5E, 7⟩ ]

/-- The rows of ROL on memory in the decode table of R53. -/
def rolRows (z : Byte) (a : Word) : List (Row MemOperand) :=
  [ ⟨.rolZp z, .zp z, 0x26, 5⟩,
    ⟨.rolZpX z, .zpX z, 0x36, 6⟩,
    ⟨.rolAbs a, .abs a, 0x2E, 6⟩,
    ⟨.rolAbsX a, .absX a, 0x3E, 7⟩ ]

/-- The rows of ROR on memory in the decode table of R53. -/
def rorRows (z : Byte) (a : Word) : List (Row MemOperand) :=
  [ ⟨.rorZp z, .zp z, 0x66, 5⟩,
    ⟨.rorZpX z, .zpX z, 0x76, 6⟩,
    ⟨.rorAbs a, .abs a, 0x6E, 6⟩,
    ⟨.rorAbsX a, .absX a, 0x7E, 7⟩ ]


/-- `setZN(v)` of R10 on the flags. -/
def zn (f : Flags) (v : Byte) : Flags := { f with z := decide (v.toNat = 0), n := decide (0x80 ≤ v.toNat) }

/-- One cycle on a page cross (R163). -/
def pageCharge (crossed : Bool) : Nat := if crossed then 1 else 0

/-- The end of a step that accounts `n` cycles and returns `Ok(n)` (R69, R162). -/
def done (n : Nat) (s : State) : Result := .next { s with cycles := s.cycles + n, report := .ok n }

/-- The high and the low byte of an address, as numbers. -/
def high (w : Word) : Byte := BitVec.ofNat 8 (w.toNat / 0x100)

/-- The low byte of an address. -/
def low (w : Word) : Byte := BitVec.ofNat 8 (w.toNat % 0x100)

/-- `(hi << 8) | lo` as a number. -/
def word (hi lo : Byte) : Word := BitVec.ofNat 16 (hi.toNat * 0x100 + lo.toNat)

/-- `0x0100 | SP` as a number. -/
def slot (sp : Byte) : Word := BitVec.ofNat 16 (0x100 + sp.toNat)

/-- `Push(v)` of R32. -/
def pushed (s : State) (v : Byte) : State := { s.memWrite (slot s.sp) v with sp := s.sp - 1 }

/-- The byte `Pull()` of R32 gives from page 1, which is no port. -/
def pulled (s : State) : Byte := s.busRead (slot (s.sp + 1))

/-- `n` successive CPU reads at rising addresses, and the state after them. -/
def readBytes (s : State) (addr : Word) : Nat → List Byte × State
  | 0 => ([], s)
  | n + 1 => ((s.memRead addr).1 :: (readBytes (s.memRead addr).2 (addr + 1) n).1, (readBytes (s.memRead addr).2 (addr + 1) n).2)

/-- The ASCII codes of the upper-case hexadecimal digits (R41, D14). -/
def upperHex : List Byte := [0x30, 0x31, 0x32, 0x33, 0x34, 0x35, 0x36, 0x37, 0x38, 0x39, 0x41, 0x42, 0x43, 0x44, 0x45, 0x46]

/-- `DecAdd(a, m, c)` of R91, written with its bit masks: the result and the decimal carry. -/
def nmosSum (a m : Byte) (c : Bool) : Byte × Bool :=
  let low := (a.toNat &&& 0x0F) + (m.toNat &&& 0x0F) + c.toNat
  let al := if 0x0A ≤ low then ((low + 0x06) &&& 0x0F) + 0x10 else low
  let sum := (a.toNat &&& 0xF0) + (m.toNat &&& 0xF0) + al
  let out := if 0xA0 ≤ sum then sum + 0x60 else sum
  (BitVec.ofNat 8 out, decide (0x100 ≤ out))

/-- `DecSub(a, m, c)` of R92, written with its bit masks. -/
def nmosDifference (a m : Byte) (c : Bool) : Byte :=
  let low : Int := ((a.toNat &&& 0x0F : Nat) : Int) - ((m.toNat &&& 0x0F : Nat) : Int) + (c.toNat : Int) - 1
  let al : Int := if low < 0 then (low - 0x06) % 0x10 - 0x10 else low
  let sum : Int := ((a.toNat &&& 0xF0 : Nat) : Int) - ((m.toNat &&& 0xF0 : Nat) : Int) + al
  BitVec.ofInt 8 (if sum < 0 then sum - 0x60 else sum)

/-- A change of the state, applied to the outcome of a step. -/
def onNext (f : State → State) : Result → Result
  | .next t => .next (f t)
  | .fault r => .fault r
  | .refused r => .refused r

/-- The decimal number of two BCD digits (R91). -/
def bcdValue (b : Byte) : Nat := b.toNat / 16 * 10 + b.toNat % 16

/-- The 56 mnemonics of R53, and the rows without an instruction (R55). -/
inductive Mnemonic where
  | LDA | LDX | LDY | STA | STX | STY | TAX | TAY | TXA | TYA | TSX | TXS | PHA | PHP
  | PLA | PLP | ADC | SBC | CMP | CPX | CPY | INC | DEC | INX | INY | DEX | DEY | AND
  | ORA | EOR | BIT | ASL | LSR | ROL | ROR | JMP | JSR | RTS | RTI | BRK | BPL | BMI
  | BVC | BVS | BCC | BCS | BNE | BEQ | NOP | CLC | SEC | CLI | SEI | CLD | SED | CLV
  | none
  deriving DecidableEq, Repr

/-- The mnemonic of an instruction's row (R53). -/
def mnemonic : Instr → Mnemonic
  | .ldaImm _ | .ldaZp _ | .ldaZpX _ | .ldaAbs _ | .ldaAbsX _ | .ldaAbsY _ | .ldaIndX _ | .ldaIndY _ => .LDA
  | .ldxImm _ | .ldxZp _ | .ldxZpY _ | .ldxAbs _ | .ldxAbsY _ => .LDX
  | .ldyImm _ | .ldyZp _ | .ldyZpX _ | .ldyAbs _ | .ldyAbsX _ => .LDY
  | .staZp _ | .staZpX _ | .staAbs _ | .staAbsX _ | .staAbsY _ | .staIndX _ | .staIndY _ => .STA
  | .stxZp _ | .stxZpY _ | .stxAbs _ => .STX
  | .styZp _ | .styZpX _ | .styAbs _ => .STY
  | .tax => .TAX
  | .tay => .TAY
  | .txa => .TXA
  | .tya => .TYA
  | .tsx => .TSX
  | .txs => .TXS
  | .pha => .PHA
  | .php => .PHP
  | .pla => .PLA
  | .plp => .PLP
  | .adcImm _ | .adcZp _ | .adcZpX _ | .adcAbs _ | .adcAbsX _ | .adcAbsY _ | .adcIndX _ | .adcIndY _ => .ADC
  | .sbcImm _ | .sbcZp _ | .sbcZpX _ | .sbcAbs _ | .sbcAbsX _ | .sbcAbsY _ | .sbcIndX _ | .sbcIndY _ | .sbcImmEB _ => .SBC
  | .cmpImm _ | .cmpZp _ | .cmpZpX _ | .cmpAbs _ | .cmpAbsX _ | .cmpAbsY _ | .cmpIndX _ | .cmpIndY _ => .CMP
  | .cpxImm _ | .cpxZp _ | .cpxAbs _ => .CPX
  | .cpyImm _ | .cpyZp _ | .cpyAbs _ => .CPY
  | .incZp _ | .incZpX _ | .incAbs _ | .incAbsX _ => .INC
  | .decZp _ | .decZpX _ | .decAbs _ | .decAbsX _ => .DEC
  | .inx => .INX
  | .iny => .INY
  | .dex => .DEX
  | .dey => .DEY
  | .andImm _ | .andZp _ | .andZpX _ | .andAbs _ | .andAbsX _ | .andAbsY _ | .andIndX _ | .andIndY _ => .AND
  | .oraImm _ | .oraZp _ | .oraZpX _ | .oraAbs _ | .oraAbsX _ | .oraAbsY _ | .oraIndX _ | .oraIndY _ => .ORA
  | .eorImm _ | .eorZp _ | .eorZpX _ | .eorAbs _ | .eorAbsX _ | .eorAbsY _ | .eorIndX _ | .eorIndY _ => .EOR
  | .bitZp _ | .bitAbs _ => .BIT
  | .aslZp _ | .aslZpX _ | .aslAbs _ | .aslAbsX _ | .aslAcc => .ASL
  | .lsrZp _ | .lsrZpX _ | .lsrAbs _ | .lsrAbsX _ | .lsrAcc => .LSR
  | .rolZp _ | .rolZpX _ | .rolAbs _ | .rolAbsX _ | .rolAcc => .ROL
  | .rorZp _ | .rorZpX _ | .rorAbs _ | .rorAbsX _ | .rorAcc => .ROR
  | .jmpAbs _ | .jmpInd _ => .JMP
  | .jsr _ => .JSR
  | .rts => .RTS
  | .rti => .RTI
  | .brk => .BRK
  | .bpl _ => .BPL
  | .bmi _ => .BMI
  | .bvc _ => .BVC
  | .bvs _ => .BVS
  | .bcc _ => .BCC
  | .bcs _ => .BCS
  | .bne _ => .BNE
  | .beq _ => .BEQ
  | .nop => .NOP
  | .clc => .CLC
  | .sec => .SEC
  | .cli => .CLI
  | .sei => .SEI
  | .cld => .CLD
  | .sed => .SED
  | .clv => .CLV
  | .invalid _ => .none


/-- The accumulator form of a shift or rotate (R57). -/
def isAccForm : Instr → Bool
  | .aslAcc | .lsrAcc | .rolAcc | .rorAcc => true
  | _ => false

/-- The writers of A (R14); of the shifts only the accumulator forms. -/
def writesA (i : Instr) : Bool :=
  ([.LDA, .PLA, .TXA, .TYA, .ADC, .SBC, .AND, .ORA, .EOR] : List Mnemonic).contains (mnemonic i) || isAccForm i

/-- The writers of X (R14). -/
def writesX (i : Instr) : Bool := ([.LDX, .TAX, .TSX, .INX, .DEX] : List Mnemonic).contains (mnemonic i)

/-- The writers of Y (R14). -/
def writesY (i : Instr) : Bool := ([.LDY, .TAY, .INY, .DEY] : List Mnemonic).contains (mnemonic i)

/-- The writers of SP (R14). -/
def writesSp (i : Instr) : Bool :=
  ([.TXS, .PHA, .PHP, .PLA, .PLP, .JSR, .RTS, .RTI, .BRK] : List Mnemonic).contains (mnemonic i)

/-- The writers of C (R16). -/
def writesC (i : Instr) : Bool :=
  ([.ADC, .SBC, .CMP, .CPX, .CPY, .ASL, .LSR, .ROL, .ROR, .CLC, .SEC, .PLP, .RTI] : List Mnemonic).contains (mnemonic i)

/-- The writers of Z and of N (R16). -/
def writesZN (i : Instr) : Bool :=
  ([.ADC, .SBC, .AND, .ORA, .EOR, .BIT, .CMP, .CPX, .CPY, .INC, .DEC, .INX, .INY, .DEX, .DEY, .LDA, .LDX, .LDY,
    .TAX, .TAY, .TXA, .TYA, .TSX, .PLA, .ASL, .LSR, .ROL, .ROR, .PLP, .RTI] : List Mnemonic).contains (mnemonic i)

/-- The instructions that write I (R16): SEI, CLI, PLP, RTI, and BRK sets it. -/
def writesI (i : Instr) : Bool := ([.SEI, .CLI, .PLP, .RTI, .BRK] : List Mnemonic).contains (mnemonic i)

/-- The writers of D (R16). -/
def writesD (i : Instr) : Bool := ([.SED, .CLD, .PLP, .RTI] : List Mnemonic).contains (mnemonic i)

/-- The writers of V (R16). -/
def writesV (i : Instr) : Bool := ([.ADC, .SBC, .BIT, .CLV, .PLP, .RTI] : List Mnemonic).contains (mnemonic i)

/-- The addresses an instruction's CPU writes go to, computed with the function its meaning uses: the effective address of a store (R76 to R78), of INC, DEC and the shifts on memory (R100, R101, R110 to R113), the stack slots of the pushes (R85, R86, R115, R118). Every other instruction writes nothing. -/
def storedTo (i : Instr) (s : State) : List Word :=
  match i with
  | .staZp z => [((MemOperand.zp z).resolve s).1.addr]
  | .staZpX z => [((MemOperand.zpX z).resolve s).1.addr]
  | .staAbs a => [((MemOperand.abs a).resolve s).1.addr]
  | .staAbsX a => [((MemOperand.absX a).resolve s).1.addr]
  | .staAbsY a => [((MemOperand.absY a).resolve s).1.addr]
  | .staIndX z => [((MemOperand.indX z).resolve s).1.addr]
  | .staIndY z => [((MemOperand.indY z).resolve s).1.addr]
  | .stxZp z => [((MemOperand.zp z).resolve s).1.addr]
  | .stxZpY z => [((MemOperand.zpY z).resolve s).1.addr]
  | .stxAbs a => [((MemOperand.abs a).resolve s).1.addr]
  | .styZp z => [((MemOperand.zp z).resolve s).1.addr]
  | .styZpX z => [((MemOperand.zpX z).resolve s).1.addr]
  | .styAbs a => [((MemOperand.abs a).resolve s).1.addr]
  | .incZp z => [((MemOperand.zp z).resolve s).1.addr]
  | .incZpX z => [((MemOperand.zpX z).resolve s).1.addr]
  | .incAbs a => [((MemOperand.abs a).resolve s).1.addr]
  | .incAbsX a => [((MemOperand.absX a).resolve s).1.addr]
  | .decZp z => [((MemOperand.zp z).resolve s).1.addr]
  | .decZpX z => [((MemOperand.zpX z).resolve s).1.addr]
  | .decAbs a => [((MemOperand.abs a).resolve s).1.addr]
  | .decAbsX a => [((MemOperand.absX a).resolve s).1.addr]
  | .aslZp z => [((MemOperand.zp z).resolve s).1.addr]
  | .aslZpX z => [((MemOperand.zpX z).resolve s).1.addr]
  | .aslAbs a => [((MemOperand.abs a).resolve s).1.addr]
  | .aslAbsX a => [((MemOperand.absX a).resolve s).1.addr]
  | .lsrZp z => [((MemOperand.zp z).resolve s).1.addr]
  | .lsrZpX z => [((MemOperand.zpX z).resolve s).1.addr]
  | .lsrAbs a => [((MemOperand.abs a).resolve s).1.addr]
  | .lsrAbsX a => [((MemOperand.absX a).resolve s).1.addr]
  | .rolZp z => [((MemOperand.zp z).resolve s).1.addr]
  | .rolZpX z => [((MemOperand.zpX z).resolve s).1.addr]
  | .rolAbs a => [((MemOperand.abs a).resolve s).1.addr]
  | .rolAbsX a => [((MemOperand.absX a).resolve s).1.addr]
  | .rorZp z => [((MemOperand.zp z).resolve s).1.addr]
  | .rorZpX z => [((MemOperand.zpX z).resolve s).1.addr]
  | .rorAbs a => [((MemOperand.abs a).resolve s).1.addr]
  | .rorAbsX a => [((MemOperand.absX a).resolve s).1.addr]
  | .pha | .php => [stackAddr s.sp]
  | .jsr _ => [stackAddr s.sp, stackAddr (s.sp - 1)]
  | .brk => [stackAddr s.sp, stackAddr (s.sp - 1), stackAddr (s.sp - 2)]
  | _ => []


/-- The eight branches with their opcodes and conditions (R120 to R127). -/
def branchRows (r : Byte) : List (Instr × Byte × (Flags → Bool)) :=
  [ (.bpl r, 0x10, fun f => !f.n), (.bmi r, 0x30, fun f => f.n), (.bvc r, 0x50, fun f => !f.v), (.bvs r, 0x70, fun f => f.v),
    (.bcc r, 0x90, fun f => !f.c), (.bcs r, 0xB0, fun f => f.c), (.bne r, 0xD0, fun f => !f.z), (.beq r, 0xF0, fun f => f.z) ]

/-- The flag instructions with their opcodes and the flags they leave (R129 to R135). -/
def flagRows (f : Flags) : List (Instr × Byte × Flags) :=
  [ (.clc, 0x18, { f with c := false }), (.sec, 0x38, { f with c := true }), (.cli, 0x58, { f with i := false }),
    (.sei, 0x78, { f with i := true }), (.cld, 0xD8, { f with d := false }), (.sed, 0xF8, { f with d := true }),
    (.clv, 0xB8, { f with v := false }) ]

/-- What the four shifts give of a byte and the carry (R110 to R113): instruction on A, opcode, result, shifted-out bit. -/
def shiftRows (v c : Nat) : List (Instr × Byte × Nat × Bool) :=
  [ (.aslAcc, 0x0A, 2 * v % 256, decide (128 ≤ v)), (.lsrAcc, 0x4A, v / 2, decide (v % 2 = 1)),
    (.rolAcc, 0x2A, (2 * v + c) % 256, decide (128 ≤ v)), (.rorAcc, 0x6A, v / 2 + 128 * c, decide (v % 2 = 1)) ]

/-- A shift row on memory: one read, one write of the result, C the shifted-out bit, Z and N of the result (R110 to R113, R45). -/
def shiftsMemory (s : State) (result : Nat → Nat → Nat) (out : Nat → Bool) (r : Row MemOperand) : Prop :=
  r.encoded ∧ exec r.instr s =
    (let ea := r.operand.resolve s
     let v := ea.2.memRead ea.1.addr
     let w := BitVec.ofNat 8 (result v.1.toNat s.flags.c.toNat)
     done r.base { v.2.memWrite ea.1.addr w with flags := { zn s.flags w with c := out v.1.toNat } })

/-- A compare row (R96): C is no borrow, Z and N of the difference, the register kept. -/
def compares (s : State) (reg : Byte) (charged : Bool) (r : Row Source) : Prop :=
  r.encoded ∧ exec r.instr s =
    (let l := r.operand.load s
     done (r.base + pageCharge (charged && l.crossed))
       { l.after with flags := { zn s.flags (reg - l.value) with c := decide (l.value.toNat ≤ reg.toNat) } })

/-- A logic row (R106 to R108). -/
def logics (s : State) (op : Byte → Byte → Byte) (r : Row Source) : Prop :=
  r.encoded ∧ exec r.instr s =
    (let l := r.operand.load s
     done (r.base + pageCharge l.crossed) { l.after with a := op s.a l.value, flags := zn s.flags (op s.a l.value) })

/-- A row of INC or DEC: one read, one write of the changed value (R100, R101). -/
def increments (s : State) (change : Byte → Byte) (r : Row MemOperand) : Prop :=
  r.encoded ∧ exec r.instr s =
    (let ea := r.operand.resolve s
     let v := ea.2.memRead ea.1.addr
     done r.base { v.2.memWrite ea.1.addr (change v.1) with flags := zn s.flags (change v.1) })

/-- A store row: one write of the register, no read of the destination (R76 to R78). -/
def stores (s : State) (reg : Byte) (r : Row MemOperand) : Prop :=
  r.encoded ∧ exec r.instr s = done r.base ((r.operand.resolve s).2.memWrite (r.operand.resolve s).1.addr reg)

/-- The frame of an entry on the stack: PC high, PC low, the status byte (R140). -/
def entryPushes (s : State) (status : Byte) : State := pushed (pushed (pushed s (high s.pc)) (low s.pc)) status

/-- The entry sequence of R140 in the spec's order. -/
def entered (s : State) (vector : Word) (status : Byte) : State :=
  { entryPushes s status with
    flags := { s.flags with i := true },
    pc := word ((entryPushes s status).busRead (vector + 1)) ((entryPushes s status).busRead vector) }

end Sys2Proof.Spec

open Sys2Proof.Spec

/-! ### Encoding -/

/-- Decoding the bytes of any well-formed instruction, whatever follows them, gives it back (30_encoding.md sections 1 and 2). -/
def Obligations.DecodeOfEncode : Prop :=
  ∀ (i : Instr) (rest : List Byte), i.wellFormed = true → decode (encode i ++ rest) = .ok (i, rest)

/-- Whatever decodes is well-formed, and the bytes it was read from are its encoding: each byte string has one meaning (30_encoding.md sections 1 and 2). -/
def Obligations.EncodeOfDecode : Prop :=
  ∀ (bytes rest : List Byte) (i : Instr), decode bytes = .ok (i, rest) → i.wellFormed = true ∧ bytes = encode i ++ rest

/-- Words written out from the opcode map of 30_encoding.md section 2 and the examples of its section 5 decode to their instructions. -/
def Obligations.KnownBytesDecode : Prop :=
  decode [0xA9, 0x42] = .ok (.ldaImm 0x42, []) ∧
  decode [0x8D, 0x00, 0x20] = .ok (.staAbs 0x2000, []) ∧
  decode [0xBD, 0xFF, 0x10] = .ok (.ldaAbsX 0x10FF, []) ∧
  decode [0xB1, 0x20] = .ok (.ldaIndY 0x20, []) ∧
  decode [0x6C, 0xFF, 0x30] = .ok (.jmpInd 0x30FF, []) ∧
  decode [0xD0, 0xF9] = .ok (.bne 0xF9, []) ∧
  decode [0x0A] = .ok (.aslAcc, []) ∧
  decode [0x28] = .ok (.plp, []) ∧
  decode [0xF8] = .ok (.sed, []) ∧
  decode [0xE9, 0x15] = .ok (.sbcImm 0x15, []) ∧
  decode [0x02, 0xEA] = .ok (.invalid 0x02, [0xEA])

/-- Exactly the 104 bytes listed in 30_encoding.md section 2 have no row; such a byte decodes alone, whatever follows it, to `invalid`. -/
def Obligations.InvalidBytesHaveNoRow : Prop :=
  (invalidOpcodes.flatten.length = 104 ∧ invalidOpcodes.flatten.Nodup) ∧
  ∀ (op : Byte) (rest : List Byte),
    decode (op :: rest) = .ok (.invalid op, rest) ↔ op ∈ invalidOpcodes.flatten

/-- R54: 0xEB decodes to its own row and behaves exactly as 0xE9, cycles included. -/
def Obligations.AliasEBIsSbcImmediate : Prop :=
  ∀ (v : Byte) (rest : List Byte) (s : State),
    decode (0xEB :: v :: rest) = .ok (.sbcImmEB v, rest) ∧ exec (.sbcImmEB v) s = exec (.sbcImm v) s

/-! ### Memory, the bus and the ports -/

/-- A write keeps the canonical form, a read of the written address gives the byte, every other address is unchanged (20_memory.md sections 5 and 7). -/
def Obligations.ReadAfterWrite : Prop :=
  ∀ (m : Memory) (a : Nat) (v : Byte), m.wf = true → a < 0x10000 →
    (m.write a v).wf = true ∧ (m.write a v).read a = v ∧ ∀ b, b ≠ a → (m.write a v).read b = m.read b

/-- Two canonical memories that read alike are the same data. -/
def Obligations.CanonicalMemoryIsUnique : Prop :=
  ∀ m m' : Memory, m.wf = true → m'.wf = true → (∀ a, m.read a = m'.read a) → m = m'

/-- R33: a CPU read of 0xD011 gives the oldest byte of `inq` and removes it, or 0x00 and changes nothing; every other CPU read is a bus read and changes nothing. -/
def Obligations.CpuReadPath : Prop :=
  ∀ (s : State) (addr : Word),
    s.memRead addr =
      if addr = 0xD011 then
        match s.inq with
        | [] => (0x00, s)
        | b :: rest => (b, { s with inq := rest })
      else (s.busRead addr, s)

/-- R34: a CPU write of 0xD012 appends the byte to `outq`, or drops it when QCAP bytes are there, and stores nothing; every other CPU write is a bus write. -/
def Obligations.CpuWritePath : Prop :=
  ∀ (s : State) (addr : Word) (v : Byte),
    s.memWrite addr v =
      if addr = 0xD012 then (if s.outq.length < 1024 then { s with outq := s.outq ++ [v] } else s)
      else s.busWrite addr v

/-- R37, R38, R40, R42: the first entry that contains the address serves it, by the absolute address; if none does, a read gives 0xFF and a write is dropped. -/
def Obligations.BusFirstMatch : Prop :=
  ∀ (s : State) (addr : Word) (v : Byte),
    (∀ (before after : List BusEntry) (e : BusEntry), s.bus = before ++ e :: after →
      (∀ d ∈ before, ¬ (d.first.toNat ≤ addr.toNat ∧ addr.toNat ≤ d.last.toNat)) →
      e.first.toNat ≤ addr.toNat → addr.toNat ≤ e.last.toNat →
        s.busRead addr =
          (match e.device with
           | .monitoredRam => s.mem.read addr.toNat
           | .plainRam => if addr.toNat < s.params.plainRamSize then s.plain.read addr.toNat else 0xFF) ∧
        s.busWrite addr v =
          (match e.device with
           | .monitoredRam => s.monitoredWrite addr v
           | .plainRam =>
             if addr.toNat < s.params.plainRamSize then { s with plain := s.plain.write addr.toNat v } else s)) ∧
    ((∀ d ∈ s.bus, ¬ (d.first.toNat ≤ addr.toNat ∧ addr.toNat ≤ d.last.toNat)) →
      s.busRead addr = 0xFF ∧ s.busWrite addr v = s)

/-- R41: a write of monitored RAM stores the byte and sends the message of its hook, byte by byte, to `outq`: as many bytes as fit (D13), in every state; every address the bus routes to monitored RAM is read and written so, under the default bus every address; and the bytes each hook sends, at every value. -/
def Obligations.MonitoredRamStoresThenSends : Prop :=
  (∀ (s : State) (addr : Word) (v : Byte),
    s.monitoredWrite addr v =
      { s with
        mem := s.mem.write addr.toNat v
        outq := s.outq ++ (hookOutput addr v).take (1024 - s.outq.length) }) ∧
  (∀ (s : State) (addr : Word) (v : Byte), route s.bus addr = some .monitoredRam →
    s.busRead addr = s.mem.read addr.toNat ∧ s.busWrite addr v = s.monitoredWrite addr v) ∧
  (∀ addr : Word, route defaultBus addr = some .monitoredRam) ∧
  hookOutput 0x6001 0x00 =
    [0x36, 0x35, 0x30, 0x32, 0x20, 0x46, 0x55, 0x4E, 0x43, 0x54, 0x49, 0x4F, 0x4E, 0x41, 0x4C, 0x20, 0x54, 0x45, 0x53, 0x54,
     0x20, 0x50, 0x41, 0x53, 0x53, 0x45, 0x44, 0x0D, 0x0A] ∧
  hookOutput 0x6002 0x00 =
    [0x41, 0x44, 0x44, 0x49, 0x54, 0x49, 0x4F, 0x4E, 0x41, 0x4C, 0x20, 0x54, 0x45, 0x53, 0x54, 0x20, 0x50, 0x41, 0x53, 0x53,
     0x45, 0x44, 0x0A] ∧
  ∀ b : Byte,
    hookOutput 0x6000 b = [b] ∧
    (b ≠ 0 → hookOutput 0x6001 b =
      [0x36, 0x35, 0x30, 0x32, 0x20, 0x46, 0x55, 0x4E, 0x43, 0x54, 0x49, 0x4F, 0x4E, 0x41, 0x4C, 0x20, 0x54, 0x45, 0x53, 0x54,
       0x20, 0x46, 0x41, 0x49, 0x4C, 0x45, 0x44, 0x0D, 0x0A]) ∧
    (b ≠ 0 → hookOutput 0x6002 b =
      [0x41, 0x44, 0x44, 0x49, 0x54, 0x49, 0x4F, 0x4E, 0x41, 0x4C, 0x20, 0x54, 0x45, 0x53, 0x54, 0x20, 0x46, 0x41, 0x49, 0x4C,
       0x45, 0x44, 0x3A, 0x20, 0x43, 0x4F, 0x44, 0x45, 0x20, 0x30, 0x78,
       upperHex.getD (b.toNat / 16) 0, upperHex.getD (b.toNat % 16) 0, 0x0A]) ∧
    ∀ addr : Word, addr ≠ 0x6000 → addr ≠ 0x6001 → addr ≠ 0x6002 → hookOutput addr b = []

/-- R30, R31, R32: a 16-bit read is two byte reads, low byte first, wrapping at 0x10000 or inside the zero page; a push writes at 0x0100 + SP and moves SP down, a pull moves SP up and reads, both wrapping inside page 1. -/
def Obligations.WordAndStackAccess : Prop :=
  ∀ (s : State) (addr : Word) (z v : Byte),
    (s.read16 addr =
      (word ((s.memRead addr).2.memRead (addr + 1)).1 (s.memRead addr).1, ((s.memRead addr).2.memRead (addr + 1)).2)) ∧
    (s.readZP16 z =
      (word (s.busRead (BitVec.ofNat 16 ((z.toNat + 1) % 0x100))) (s.busRead (BitVec.ofNat 16 z.toNat)), s)) ∧
    s.push v = { s.memWrite (BitVec.ofNat 16 (0x100 + s.sp.toNat)) v with sp := BitVec.ofNat 8 ((s.sp.toNat + 255) % 256) } ∧
    s.pull =
      (s.busRead (BitVec.ofNat 16 (0x100 + (s.sp.toNat + 1) % 256)), { s with sp := BitVec.ofNat 8 ((s.sp.toNat + 1) % 256) })

/-- Under the default bus a pull gives back the byte pushed last, and SP (20_memory.md section 2). -/
def Obligations.PullAfterPush : Prop :=
  ∀ (s : State) (v : Byte), s.bus = defaultBus → s.mem.wf = true →
    (s.push v).pull = (v, { s with mem := s.mem.write (0x100 + s.sp.toNat) v })

/-! ### Addressing modes -/

/-- The effective addresses of the zero-page modes from a fetched operand byte; the indexed sums wrap inside the zero page (30_encoding.md section 3). -/
def Obligations.ZeroPageModes : Prop :=
  ∀ (s : State) (z : Byte),
    (MemOperand.zp z).resolve s = (⟨BitVec.ofNat 16 z.toNat, false⟩, s) ∧
    (MemOperand.zpX z).resolve s = (⟨BitVec.ofNat 16 ((z.toNat + s.x.toNat) % 0x100), false⟩, s) ∧
    (MemOperand.zpY z).resolve s = (⟨BitVec.ofNat 16 ((z.toNat + s.y.toNat) % 0x100), false⟩, s)

/-- The effective addresses of the absolute modes from a fetched operand word; the indexed sums wrap at 0x10000, and a page is crossed when the high bytes differ (30_encoding.md section 3). -/
def Obligations.AbsoluteModes : Prop :=
  ∀ (s : State) (a : Word),
    (MemOperand.abs a).resolve s = (⟨a, false⟩, s) ∧
    (MemOperand.absX a).resolve s =
      (⟨BitVec.ofNat 16 ((a.toNat + s.x.toNat) % 0x10000),
        decide (a.toNat / 0x100 ≠ (a.toNat + s.x.toNat) % 0x10000 / 0x100)⟩, s) ∧
    (MemOperand.absY a).resolve s =
      (⟨BitVec.ofNat 16 ((a.toNat + s.y.toNat) % 0x10000),
        decide (a.toNat / 0x100 ≠ (a.toNat + s.y.toNat) % 0x10000 / 0x100)⟩, s)

/-- The effective addresses of (zp,X) and (zp),Y from a fetched operand byte; both pointer bytes are in the zero page, wrapping from 0xFF to 0x00; Y is added after the pointer is read (30_encoding.md section 3). -/
def Obligations.IndirectModes : Prop :=
  ∀ (s : State) (z : Byte),
    (MemOperand.indX z).resolve s =
      (⟨word (s.busRead (BitVec.ofNat 16 ((z.toNat + s.x.toNat + 1) % 0x100)))
        (s.busRead (BitVec.ofNat 16 ((z.toNat + s.x.toNat) % 0x100))), false⟩, s) ∧
    (let b := word (s.busRead (BitVec.ofNat 16 ((z.toNat + 1) % 0x100))) (s.busRead (BitVec.ofNat 16 z.toNat))
     (MemOperand.indY z).resolve s =
       (⟨BitVec.ofNat 16 ((b.toNat + s.y.toNat) % 0x10000),
         decide (b.toNat / 0x100 ≠ (b.toNat + s.y.toNat) % 0x10000 / 0x100)⟩, s))

/-- `LoadOp` of a memory operand is one CPU read at its effective address (00_scope.md section 5, 30_encoding.md section 3); of an immediate it is the byte the fetch has read and keeps the state: the model's reading, log entry 13. -/
def Obligations.OperandLoad : Prop :=
  ∀ (s : State) (v : Byte) (m : MemOperand),
    (Source.imm v).load s = ⟨v, false, s⟩ ∧
    (Source.mem m).load s =
      ⟨((m.resolve s).2.memRead (m.resolve s).1.addr).1, (m.resolve s).1.crossed,
        ((m.resolve s).2.memRead (m.resolve s).1.addr).2⟩

/-! ### Loads, stores, transfers, stack -/

/-- R73, R74, R75: every form of LDA, LDX, LDY loads the operand into its register, sets Z and N from it, and charges a page cross. -/
def Obligations.LoadsSetRegisterAndZN : Prop :=
  ∀ (s : State) (v z : Byte) (a : Word),
    ((ldaRows v z a).Forall fun r => r.encoded ∧ exec r.instr s =
      (let l := r.operand.load s
       done (r.base + pageCharge l.crossed) { l.after with a := l.value, flags := zn s.flags l.value })) ∧
    ((ldxRows v z a).Forall fun r => r.encoded ∧ exec r.instr s =
      (let l := r.operand.load s
       done (r.base + pageCharge l.crossed) { l.after with x := l.value, flags := zn s.flags l.value })) ∧
    ((ldyRows v z a).Forall fun r => r.encoded ∧ exec r.instr s =
      (let l := r.operand.load s
       done (r.base + pageCharge l.crossed) { l.after with y := l.value, flags := zn s.flags l.value }))

/-- R76, R77, R78: every form of STA, STX, STY writes its register once at the effective address, sets no flag, and never charges a page cross. -/
def Obligations.StoresWriteOnce : Prop :=
  ∀ (s : State) (z : Byte) (a : Word),
    (staRows z a).Forall (stores s s.a) ∧ (stxRows z a).Forall (stores s s.x) ∧ (styRows z a).Forall (stores s s.y)

/-- R79 to R84: the transfers; all but TXS set Z and N. -/
def Obligations.TransfersCopyRegister : Prop :=
  ∀ s : State,
    (encode .tax = [0xAA] ∧ exec .tax s = done 2 { s with x := s.a, flags := zn s.flags s.a }) ∧
    (encode .tay = [0xA8] ∧ exec .tay s = done 2 { s with y := s.a, flags := zn s.flags s.a }) ∧
    (encode .txa = [0x8A] ∧ exec .txa s = done 2 { s with a := s.x, flags := zn s.flags s.x }) ∧
    (encode .tya = [0x98] ∧ exec .tya s = done 2 { s with a := s.y, flags := zn s.flags s.y }) ∧
    (encode .tsx = [0xBA] ∧ exec .tsx s = done 2 { s with x := s.sp, flags := zn s.flags s.sp }) ∧
    (encode .txs = [0x9A] ∧ exec .txs s = done 2 { s with sp := s.x })

/-- R85 to R88: PHA pushes A, PHP pushes P | 0x30, PLA pulls A and sets Z and N, PLP pulls P with B cleared and U set. -/
def Obligations.StackInstructions : Prop :=
  ∀ s : State,
    (encode .pha = [0x48] ∧ exec .pha s = done 3 (pushed s s.a)) ∧
    (encode .php = [0x08] ∧ exec .php s = done 3 (pushed s (s.status ||| 0x30))) ∧
    (encode .pla = [0x68] ∧ exec .pla s = done 4 { s with a := pulled s, sp := s.sp + 1, flags := zn s.flags (pulled s) }) ∧
    (encode .plp = [0x28] ∧ ∃ f : Flags, f.toByte = (pulled s &&& 0xEF) ||| 0x20 ∧
      exec .plp s = done 4 { s with sp := s.sp + 1, flags := f })

/-! ### Arithmetic -/

/-- The byte of AddBin is the sum modulo 0x100, byte and carry together are the exact sum, the overflow is the formula of 42_arithmetic.md section 1; with the operand complemented it is the subtraction. Two clauses are no words of a rule: that the overflow says the signed sum is out of -128 .. 127 follows from the formula, and that the overflow with the operand complemented is the formula of SBC is a sentence marked [derived] there. -/
def Obligations.BinarySumIsExact : Prop :=
  ∀ (a m : Byte) (c : Bool),
    (addBin a m c).r.toNat = (a.toNat + m.toNat + c.toNat) % 0x100 ∧
    (addBin a m c).r.toNat + 256 * (addBin a m c).carry.toNat = a.toNat + m.toNat + c.toNat ∧
    (addBin a m c).ovf = ((~~~(a ^^^ m)) &&& (a ^^^ (addBin a m c).r) &&& 0x80 != 0) ∧
    ((addBin a m c).ovf = true ↔ a.toInt + m.toInt + c.toNat < -128 ∨ 127 < a.toInt + m.toInt + c.toNat) ∧
    (addBin a (~~~m) c).r.toNat + 256 * (addBin a (~~~m) c).carry.toNat = a.toNat + (255 - m.toNat) + c.toNat ∧
    (addBin a (~~~m) c).ovf = ((a ^^^ m) &&& (a ^^^ (addBin a (~~~m) c).r) &&& 0x80 != 0)

/-- For operands whose digits are all at most 9, DecAdd gives the digits of the decimal sum modulo 100 and its decimal carry: the sentence after the pseudocode of 42_arithmetic.md section 1 that the spec marks [derived]. -/
def Obligations.DecimalSumOfDigits : Prop :=
  ∀ (a m : Byte) (c : Bool), isBcd a = true → isBcd m = true →
    isBcd (decAdd a m c).1 = true ∧
    bcdValue (decAdd a m c).1 = (bcdValue a + bcdValue m + c.toNat) % 100 ∧
    ((decAdd a m c).2 = true ↔ 100 ≤ bcdValue a + bcdValue m + c.toNat)

/-- For operands whose digits are all at most 9, DecSub gives the digits of the decimal difference modulo 100, and the binary no-borrow is the decimal no-borrow: two sentences of 42_arithmetic.md section 1 that the spec marks [derived]. -/
def Obligations.DecimalDifferenceOfDigits : Prop :=
  ∀ (a m : Byte) (c : Bool), isBcd a = true → isBcd m = true →
    isBcd (decSub a m c) = true ∧
    (bcdValue (decSub a m c) : Int) = ((bcdValue a : Int) - bcdValue m - (1 - c.toNat)) % 100 ∧
    ((addBin a (~~~m) c).carry = true ↔ (0 : Int) ≤ (bcdValue a : Int) - bcdValue m - (1 - c.toNat))

/-- Every form of ADC (42_arithmetic.md section 2). Z and N are of the binary sum in both modes; A and C are decimal when D is set; V is the binary overflow, in decimal mode what DECIMAL_V says: that a DECIMAL_V other than the default gives a free value of the operands and the carry is the model's choice, log entry 2. -/
def Obligations.AdcResult : Prop :=
  ∀ (s : State) (v z : Byte) (a : Word),
    (adcRows v z a).Forall fun r => r.encoded ∧ exec r.instr s =
      (let l := r.operand.load s
       let sum := s.a.toNat + l.value.toNat + s.flags.c.toNat
       let bin := BitVec.ofNat 8 sum
       let ovf := (~~~(s.a ^^^ l.value)) &&& (s.a ^^^ bin) &&& 0x80 != 0
       let dec := decimalAdc s.params s.a l.value s.flags.c
       done (r.base + pageCharge l.crossed)
         { l.after with
           a := if s.flags.d then dec.1 else bin
           flags := { zn s.flags bin with
             c := if s.flags.d then dec.2 else decide (0x100 ≤ sum)
             v := if s.flags.d && s.params.decimalV == .other then Config.decimalVAdc s.a l.value s.flags.c else ovf } })

/-- Every form of SBC, 0xEB included (42_arithmetic.md section 2). The carry is the binary no-borrow in both modes; V as in ADC: that a DECIMAL_V other than the default gives a free value of the operands and the carry is the model's choice, log entry 2. -/
def Obligations.SbcResult : Prop :=
  ∀ (s : State) (v z : Byte) (a : Word),
    (sbcRows v z a).Forall fun r => r.encoded ∧ exec r.instr s =
      (let l := r.operand.load s
       let sum := s.a.toNat + (255 - l.value.toNat) + s.flags.c.toNat
       let bin := BitVec.ofNat 8 sum
       let ovf := (s.a ^^^ l.value) &&& (s.a ^^^ bin) &&& 0x80 != 0
       done (r.base + pageCharge l.crossed)
         { l.after with
           a := if s.flags.d then decimalSbc s.params s.a l.value s.flags.c else bin
           flags := { zn s.flags bin with
             c := decide (0x100 ≤ sum)
             v := if s.flags.d && s.params.decimalV == .other then Config.decimalVSbc s.a l.value s.flags.c else ovf } })

/-- The nibble sequences of R91 and R92 decide the decimal results under the default BCD_INVALID, and for valid digits under any; only an operand digit above 9 under another BCD_INVALID (D7) is a free value, the model's choice of log entry 2. -/
def Obligations.DecimalParameters : Prop :=
  ∀ (p : Params) (a m : Byte) (c : Bool),
    decimalAdc p a m c =
      (if p.bcdInvalid = .nmosSequence ∨ (isBcd a = true ∧ isBcd m = true) then nmosSum a m c
       else Config.bcdInvalidAdc a m c) ∧
    decimalSbc p a m c =
      (if p.bcdInvalid = .nmosSequence ∨ (isBcd a = true ∧ isBcd m = true) then nmosDifference a m c
       else Config.bcdInvalidSbc a m c)

/-- R96 to R99: every form of CMP, CPX, CPY; only CMP has forms that charge a page cross. -/
def Obligations.ComparesSetFlags : Prop :=
  ∀ (s : State) (v z : Byte) (a : Word),
    (cmpRows v z a).Forall (compares s s.a true) ∧
    (cpxRows v z a).Forall (compares s s.x false) ∧
    (cpyRows v z a).Forall (compares s s.y false)

/-- R100, R101: every form of INC and DEC reads once and writes once, sets Z and N, and keeps C and V. -/
def Obligations.IncDecMemory : Prop :=
  ∀ (s : State) (z : Byte) (a : Word),
    (incRows z a).Forall (increments s fun v => v + 1) ∧ (decRows z a).Forall (increments s fun v => v - 1)

/-- R102 to R105: INX, INY, DEX, DEY wrap and set Z and N. -/
def Obligations.IncDecRegister : Prop :=
  ∀ s : State,
    (encode .inx = [0xE8] ∧ exec .inx s = done 2 { s with x := s.x + 1, flags := zn s.flags (s.x + 1) }) ∧
    (encode .iny = [0xC8] ∧ exec .iny s = done 2 { s with y := s.y + 1, flags := zn s.flags (s.y + 1) }) ∧
    (encode .dex = [0xCA] ∧ exec .dex s = done 2 { s with x := s.x - 1, flags := zn s.flags (s.x - 1) }) ∧
    (encode .dey = [0x88] ∧ exec .dey s = done 2 { s with y := s.y - 1, flags := zn s.flags (s.y - 1) })

/-! ### Logic and shifts -/

/-- R106, R107, R108: every form of AND, ORA, EOR. -/
def Obligations.LogicResult : Prop :=
  ∀ (s : State) (v z : Byte) (a : Word),
    (andRows v z a).Forall (logics s fun x y => x &&& y) ∧
    (oraRows v z a).Forall (logics s fun x y => x ||| y) ∧
    (eorRows v z a).Forall (logics s fun x y => x ^^^ y)

/-- R109: both forms of BIT set Z from A & m, N and V from bits 7 and 6 of m, and keep A. -/
def Obligations.BitTestFlags : Prop :=
  ∀ (s : State) (z : Byte) (a : Word),
    (bitRows z a).Forall fun r => r.encoded ∧ exec r.instr s =
      (let l := r.operand.load s
       done r.base
         { l.after with flags := { s.flags with
             z := decide (s.a &&& l.value = 0)
             n := decide (0x80 ≤ l.value.toNat)
             v := decide (0x40 ≤ l.value.toNat % 0x80) } })

/-- R110 to R113: every form of ASL, LSR, ROL, ROR, on A and on memory; C is the shifted-out bit and a rotate takes the previous C in at the other end. -/
def Obligations.ShiftsAndRotates : Prop :=
  ∀ (s : State) (z : Byte) (a : Word),
    ((shiftRows s.a.toNat s.flags.c.toNat).Forall fun r =>
      encode r.1 = [r.2.1] ∧ exec r.1 s =
        done 2 { s with
          a := BitVec.ofNat 8 r.2.2.1
          flags := { zn s.flags (BitVec.ofNat 8 r.2.2.1) with c := r.2.2.2 } }) ∧
    (aslRows z a).Forall (shiftsMemory s (fun v _ => 2 * v % 256) fun v => decide (128 ≤ v)) ∧
    (lsrRows z a).Forall (shiftsMemory s (fun v _ => v / 2) fun v => decide (v % 2 = 1)) ∧
    (rolRows z a).Forall (shiftsMemory s (fun v c => (2 * v + c) % 256) fun v => decide (128 ≤ v)) ∧
    (rorRows z a).Forall (shiftsMemory s (fun v c => v / 2 + 128 * c) fun v => decide (v % 2 = 1))

/-! ### Control transfer -/

/-- R114: JMP abs goes to its operand; JMP (abs) reads its target low byte first, the high byte on the pointer's own page. -/
def Obligations.JumpTargets : Prop :=
  ∀ (s : State) (a : Word),
    ((encode (.jmpAbs a)).head? = some 0x4C ∧ exec (.jmpAbs a) s = done 3 { s with pc := a }) ∧
    ((encode (.jmpInd a)).head? = some 0x6C ∧ exec (.jmpInd a) s =
      (let lo := s.memRead a
       let hi := lo.2.memRead (BitVec.ofNat 16 (a.toNat / 0x100 * 0x100 + (a.toNat + 1) % 0x100))
       done 5 { hi.2 with pc := word hi.1 lo.1 }))

/-- R115: JSR pushes the address of its last byte, high byte first, and goes to its operand. -/
def Obligations.JsrPushesReturn : Prop :=
  ∀ (s : State) (a : Word),
    (encode (.jsr a)).head? = some 0x20 ∧
    exec (.jsr a) s = done 6 { pushed (pushed s (high (s.pc - 1))) (low (s.pc - 1)) with pc := a }

/-- R116, R117: RTS pulls PC, low byte first, and adds one; RTI pulls P with B cleared and U set, then PC, and adds nothing. -/
def Obligations.ReturnsPull : Prop :=
  ∀ s : State,
    (encode .rts = [0x60] ∧ exec .rts s =
      done 6 { s with sp := s.sp + 2, pc := word (s.busRead (slot (s.sp + 2))) (s.busRead (slot (s.sp + 1))) + 1 }) ∧
    (encode .rti = [0x40] ∧ ∃ f : Flags, f.toByte = (pulled s &&& 0xEF) ||| 0x20 ∧ exec .rti s =
      done 6 { s with
        flags := f, sp := s.sp + 3, pc := word (s.busRead (slot (s.sp + 3))) (s.busRead (slot (s.sp + 2))) })

/-- R118: BRK skips its padding byte and takes the entry at 0xFFFE with B and U set in the pushed P, whatever I is; 7 cycles. -/
def Obligations.BrkTakesEntry : Prop :=
  ∀ s : State,
    encode .brk = [0x00] ∧
    exec .brk s = done 7 (entered { s with pc := s.pc + 1 } 0xFFFE ((s.status &&& 0xCF) ||| 0x30))

/-- R119 to R127: every branch commits its target when its condition holds, modulo 0x10000, writes no flag, and costs 2, 3 or 4 cycles. -/
def Obligations.BranchesOnFlag : Prop :=
  ∀ (s : State) (r : Byte),
    (branchRows r).Forall fun b =>
      encode b.1 = [b.2.1, r] ∧ exec b.1 s =
        (let target := BitVec.ofInt 16 ((s.pc.toNat : Int) + r.toInt)
         if b.2.2 s.flags then
           done (3 + pageCharge (decide (s.pc.toNat / 0x100 ≠ target.toNat / 0x100))) { s with pc := target }
         else done 2 s)

/-- R128 to R135: NOP changes nothing; each flag instruction writes its one flag. -/
def Obligations.NopAndFlagInstructions : Prop :=
  ∀ s : State,
    (encode .nop = [0xEA] ∧ exec .nop s = done 2 s) ∧
    ((flagRows s.flags).Forall fun r => encode r.1 = [r.2.1] ∧ exec r.1 s = done 2 { s with flags := r.2.2 })

/-! ### InvalidOpcode and interrupts -/

/-- R137, as a next state (the model's reading, log entry 7): the meaning of a byte without a row halts the core and reports the opcode's address and byte; a step that fetches one keeps the fetch's increment and its own side effect, and changes no register, flag, memory byte, latch or cycle count. -/
def Obligations.InvalidOpcodeHalts : Prop :=
  (∀ (s : State) (op : Byte), exec (.invalid op) s = .next { s with halted := true, report := .invalidOpcode (s.pc - 1) op }) ∧
  ∀ (s : State) (op : Byte), s.halted = false → s.paused = false → s.nmiPending = false →
    (s.irqPending = false ∨ s.flags.i = true) → (s.memRead s.pc).1 = op → isInvalidOpcode op = true →
    step s = .next { (s.memRead s.pc).2 with pc := s.pc + 1, halted := true, report := .invalidOpcode s.pc op }

/-- R140: the entry sequence: three pushes, I set, the other flags kept, PC from the little-endian vector. -/
def Obligations.InterruptEntrySequence : Prop :=
  ∀ (s : State) (bits : Byte),
    s.intEntry 0xFFFA bits = entered s 0xFFFA ((s.status &&& 0xCF) ||| bits) ∧
    s.intEntry 0xFFFE bits = entered s 0xFFFE ((s.status &&& 0xCF) ||| bits)

/-- NMI first, whatever I is; then IRQ when I is clear; each clears its own latch only and is a step of 7 cycles of its own (60_exceptions.md section 2). A latched IRQ stays latched over every step that begins with I set or that serves an NMI (the same section, marked [derived] there). -/
def Obligations.InterruptSampling : Prop :=
  ∀ s : State, s.halted = false → s.paused = false →
    (s.nmiPending = true →
      step s = done 7 (entered { s with nmiPending := false } 0xFFFA ((s.status &&& 0xCF) ||| 0x20))) ∧
    (s.nmiPending = false → s.irqPending = true → s.flags.i = false →
      step s = done 7 (entered { s with irqPending := false } 0xFFFE ((s.status &&& 0xCF) ||| 0x20))) ∧
    (s.irqPending = true → (s.nmiPending = true ∨ s.flags.i = true) → ∀ t, step s = .next t → t.irqPending = true)

/-- Under the default bus, a return right after an entry restores PC, SP and the flags, I included (60_exceptions.md section 3, marked [derived] there). -/
def Obligations.ReturnUndoesEntry : Prop :=
  ∀ (s : State) (bits : Byte), s.bus = defaultBus → s.mem.wf = true →
    ((s.intEntry 0xFFFA bits).intReturn.pc = s.pc ∧ (s.intEntry 0xFFFA bits).intReturn.sp = s.sp ∧
      (bits = 0x20 ∨ bits = 0x30 → (s.intEntry 0xFFFA bits).intReturn.flags = s.flags)) ∧
    ((s.intEntry 0xFFFE bits).intReturn.pc = s.pc ∧ (s.intEntry 0xFFFE bits).intReturn.sp = s.sp ∧
      (bits = 0x20 ∨ bits = 0x30 → (s.intEntry 0xFFFE bits).intReturn.flags = s.flags))

/-! ### The step -/

/-- When the core may step and the bytes at PC, read one after another through the CPU read path, decode to `i`, the step is `exec i` at the state in which exactly the bytes of `i` have been read and PC is past them (30_encoding.md section 4). -/
def Obligations.StepRunsDecodedInstruction : Prop :=
  ∀ (s : State) (i : Instr) (rest : List Byte), s.halted = false → s.paused = false → s.nmiPending = false →
    (s.irqPending = false ∨ s.flags.i = true) → decode (readBytes s s.pc 3).1 = .ok (i, rest) →
    i.wellFormed = true ∧
    step s =
      exec i { (readBytes s s.pc (encode i).length).2 with pc := s.pc + BitVec.ofNat 16 (encode i).length }

/-- No instruction ends in a fault or a refusal (20_memory.md section 1, 60_exceptions.md section 3); that a byte without a row, whose outcome the spec calls a fault, answers a next state with `halted` set is the model's reading, log entry 7. -/
def Obligations.EveryInstructionCompletes : Prop :=
  ∀ (i : Instr) (s : State), ∃ t, exec i s = .next t

/-! ### Reset and the host -/

/-- R155: reset() on any state: PC is the vector, the registers, latches, `halted` and `cycles` take their values, everything else is kept. -/
def Obligations.HostResetEffect : Prop :=
  ∀ s : State,
    hostAct .reset s = .next (s.hostReset, .done) ∧
    s.hostReset =
      { s with
        pc := word (s.busRead 0xFFFD) (s.busRead 0xFFFC), sp := 0xFD, flags := ⟨false, false, true, false, false, false⟩,
        a := 0, x := 0, y := 0, irqPending := false, nmiPending := false, halted := false, cycles := 7 } ∧
    s.hostReset.status = 0x24

/-- init() leaves the values of 10_state.md section 6; reset() done twice is reset() done once (marked [derived] in 70_reset_and_hazards.md section 1); `State.reset` is reset() applied to init() under the zero MEM_INIT and the defaults the model chose (log entries 1, 4, 5). -/
def Obligations.ResetStateIsResetOfInit : Prop :=
  (∀ (bus : List BusEntry) (params : Params) (mem plain : Memory),
    (State.init bus params mem plain).a = 0 ∧ (State.init bus params mem plain).x = 0 ∧
    (State.init bus params mem plain).y = 0 ∧ (State.init bus params mem plain).sp = 0xFD ∧
    (State.init bus params mem plain).status = 0x24 ∧ (State.init bus params mem plain).pc = 0 ∧
    (State.init bus params mem plain).irqPending = false ∧ (State.init bus params mem plain).nmiPending = false ∧
    (State.init bus params mem plain).halted = false ∧ (State.init bus params mem plain).paused = false ∧
    (State.init bus params mem plain).cycles = 0 ∧ (State.init bus params mem plain).mem = mem ∧
    (State.init bus params mem plain).inq = [] ∧ (State.init bus params mem plain).outq = []) ∧
  State.reset = (State.init defaultBus Params.default [] []).hostReset ∧ State.reset.cycles = 7 ∧ State.reset.status = 0x24 ∧
  ∀ s : State, s.hostReset.hostReset = s.hostReset

/-- R156: load_program writes nothing on an empty image or one past 0xFFFF; else it writes the bytes at rising addresses through the bus, then the reset vector, low byte first; it changes no register, latch, run-control bit or configuration. -/
def Obligations.LoadProgramWrites : Prop :=
  ∀ (s : State) (bytes : List Byte) (base : Word),
    (bytes = [] → hostAct (.loadProgram bytes base) s = .next (s, .readFailed)) ∧
    (bytes ≠ [] → 0x10000 < base.toNat + bytes.length →
      hostAct (.loadProgram bytes base) s = .next (s, .memoryOverflow)) ∧
    (bytes ≠ [] → base.toNat + bytes.length ≤ 0x10000 →
      hostAct (.loadProgram bytes base) s =
        .next
          ((((List.range bytes.length).foldl
              (fun t k => t.busWrite (BitVec.ofNat 16 (base.toNat + k)) (bytes.getD k 0)) s).busWrite
                0xFFFC (low base)).busWrite 0xFFFD (high base), .done)) ∧
    ∀ (t : State) (reply : HostReply), hostAct (.loadProgram bytes base) s = .next (t, reply) →
      t.registers = s.registers ∧ t.irqPending = s.irqPending ∧ t.nmiPending = s.nmiPending ∧ t.paused = s.paused ∧
      t.halted = s.halted ∧ t.cycles = s.cycles ∧ t.inq = s.inq ∧ t.bus = s.bus ∧ t.params = s.params ∧
      t.freqHz = s.freqHz ∧ t.debug = s.debug

/-- Loading an empty image or one past 0xFFFF fails and keeps the state; under the default bus any other image boots: reset() leaves PC at the base address, so the check passes (70_reset_and_hazards.md section 1, marked [derived] there). -/
def Obligations.LoadAndBoot : Prop :=
  ∀ (s : State) (bytes : List Byte) (base : Word),
    (bytes = [] → s.bootProgram bytes base = (s, .readFailed)) ∧
    (bytes ≠ [] → 0x10000 < base.toNat + bytes.length → s.bootProgram bytes base = (s, .memoryOverflow)) ∧
    (bytes ≠ [] → base.toNat + bytes.length ≤ 0x10000 → s.bus = defaultBus → s.mem.wf = true →
      (s.bootProgram bytes base).2 = .done ∧ (s.bootProgram bytes base).1.pc = base ∧
      (s.bootProgram bytes base).1.sp = 0xFD ∧ (s.bootProgram bytes base).1.status = 0x24)

/-- The other host actions of the table of 60_exceptions.md section 6; step() runs a paused core too (the model's reading, log entry 8). -/
def Obligations.HostActionEffects : Prop :=
  ∀ (s : State) (addr w : Word) (b : Byte) (hz : Nat) (on : Bool),
    hostAct .step s =
      (if s.halted then .fault .halted
       else
         match stepOnce s with
         | .next t => .next (t, .stepped t.report)
         | .fault r => .fault r
         | .refused r => .refused r) ∧
    hostAct .run s = .next ({ s with paused := false }, .done) ∧
    hostAct (.setDebug on) s = .next ({ s with debug := on }, .done) ∧
    hostAct (.setFrequency (hz + 1)) s = .next ({ s with freqHz := hz + 1 }, .done) ∧
    hostAct .injectIrq s = .next ({ s with irqPending := true }, .done) ∧
    hostAct .injectNmi s = .next ({ s with nmiPending := true }, .done) ∧
    hostAct .pause s = .next ({ s with paused := true }, .done) ∧
    hostAct .resume s = .next ({ s with paused := false }, .done) ∧
    hostAct (.writeByte addr b) s = .next (s.busWrite addr b, .done) ∧
    hostAct (.readByte addr) s = .next (s, .byte (s.busRead addr)) ∧
    hostAct (.pushInput b) s =
      (if s.inq.length < 1024 then .next ({ s with inq := s.inq ++ [b] }, .done) else .next (s, .queueFull)) ∧
    hostAct .popOutput s = .next ({ s with outq := s.outq.tail }, .popped s.outq.head?) ∧
    hostAct (.setPc w) s = (if s.paused then .next ({ s with pc := w }, .done) else .refused .notPaused) ∧
    hostAct .snapshotRegisters s =
      (if s.paused then .next (s, .registers ⟨s.a, s.x, s.y, s.sp, s.pc, s.status⟩) else .refused .notPaused)

/-- A halted core takes no step, and whatever the host does but reset() it stays halted (10_state.md section 4, 60_exceptions.md section 5); a paused core that is not halted keeps every piece of state, as a step of the run loop that changes nothing (the model's reading, log entry 8). -/
def Obligations.HaltedAndPausedCore : Prop :=
  (∀ s : State, (s.halted = true → step s = .fault .halted) ∧ (s.halted = false → s.paused = true → step s = .next s)) ∧
  ∀ (s t : State) (act : HostAction) (reply : HostReply),
    s.halted = true → act ≠ .reset → hostAct act s = .next (t, reply) → t.halted = true

/-! ### Invariants -/

/-- Every step of the run loop keeps the invariant, from every state that meets it. -/
def Obligations.StepKeepsInvariant : Prop :=
  ∀ s t : State, s.Inv → step s = .next t → t.Inv

/-- Every schedule of run-loop steps and host actions keeps the invariant, from every state that meets it. -/
def Obligations.ScheduleKeepsInvariant : Prop :=
  ∀ (es : List Event) (s : State), s.Inv → (runEvents s es).Inv

/-- The reset state meets the invariant. -/
def Obligations.ResetMeetsInvariant : Prop := State.reset.Inv

/-- In every state bit 4 of P reads 0, bit 5 reads 1, and the other bits are the flags, at their places (10_state.md section 3). -/
def Obligations.StatusBitsHardwired : Prop :=
  ∀ s : State,
    s.status.getLsbD 4 = false ∧ s.status.getLsbD 5 = true ∧
    s.status.getLsbD 0 = s.flags.c ∧ s.status.getLsbD 1 = s.flags.z ∧ s.status.getLsbD 2 = s.flags.i ∧
    s.status.getLsbD 3 = s.flags.d ∧ s.status.getLsbD 6 = s.flags.v ∧ s.status.getLsbD 7 = s.flags.n

/-! ### Whole-machine rules and frames -/

/-- No step depends on the cycle counter, the debug flag or the frequency: changing them changes nothing else of what a step does (10_state.md section 4, 30_encoding.md section 4, 70_reset_and_hazards.md section 3). -/
def Obligations.CyclesDebugAndFrequencyUnobserved : Prop :=
  ∀ (s : State) (k hz : Nat) (on : Bool),
    step { s with cycles := s.cycles + k, debug := on, freqHz := hz } =
      onNext (fun t => { t with cycles := t.cycles + k, debug := on, freqHz := hz }) (step s)

/-- Each 8-bit register is changed only by the instructions listed as its writers (10_state.md section 1, marked [derived] there). -/
def Obligations.RegisterFrame : Prop :=
  ∀ (i : Instr) (s t : State), exec i s = .next t →
    (writesA i = false → t.a = s.a) ∧ (writesX i = false → t.x = s.x) ∧ (writesY i = false → t.y = s.y) ∧
    (writesSp i = false → t.sp = s.sp)

/-- Each stored bit of P is changed only by the instructions listed as its writers (10_state.md section 3, lists marked [derived] there). -/
def Obligations.FlagFrame : Prop :=
  ∀ (i : Instr) (s t : State), exec i s = .next t →
    (writesC i = false → t.flags.c = s.flags.c) ∧ (writesZN i = false → t.flags.z = s.flags.z ∧ t.flags.n = s.flags.n) ∧
    (writesI i = false → t.flags.i = s.flags.i) ∧ (writesD i = false → t.flags.d = s.flags.d) ∧
    (writesV i = false → t.flags.v = s.flags.v)

/-- Every byte of memory reads as before, over the bus and in both stores, but at the addresses the instruction stores to; the output port 0xD012 never changes its byte, and an instruction that stores nothing sends nothing. -/
def Obligations.MemoryFrame : Prop :=
  ∀ (i : Instr) (s t : State), exec i s = .next t →
    (∀ addr : Word, addr ∉ storedTo i s →
      t.busRead addr = s.busRead addr ∧ t.mem.read addr.toNat = s.mem.read addr.toNat ∧
      t.plain.read addr.toNat = s.plain.read addr.toNat) ∧
    t.busRead 0xD012 = s.busRead 0xD012 ∧
    (storedTo i s = [] → t.mem = s.mem ∧ t.plain = s.plain ∧ t.outq = s.outq)

/-- No instruction writes a latch, the pause bit or the configuration; only a byte without a row halts; the input queue loses bytes only at its head and the output queue gains them only at its end (10_state.md sections 4 and 5, 20_memory.md section 7). -/
def Obligations.ControlAndQueueFrame : Prop :=
  ∀ (i : Instr) (s t : State), exec i s = .next t →
    t.irqPending = s.irqPending ∧ t.nmiPending = s.nmiPending ∧ t.paused = s.paused ∧ t.bus = s.bus ∧
    t.params = s.params ∧ t.freqHz = s.freqHz ∧ t.debug = s.debug ∧ (mnemonic i ≠ .none → t.halted = s.halted) ∧
    t.inq <:+ s.inq ∧ s.outq <+: t.outq
end

