-- ==== Sys2Proof/Laws/Memory.lean ====
section
/-! SUPPORT. The laws of memory: what a read after a write gives, and that a write keeps the canonical form. -/

namespace Sys2Proof.Machine

theorem Memory.wfFrom_cons (lo k : Nat) (v : Byte) (m : Memory) :
    Memory.wfFrom lo ((k, v) :: m) = true ↔ lo ≤ k ∧ k < 0x10000 ∧ v ≠ Memory.unlisted ∧ Memory.wfFrom (k + 1) m = true := by
  simp [Memory.wfFrom, and_assoc]

theorem Memory.wfFrom_mono {lo lo' : Nat} (h : lo' ≤ lo) {m : Memory} (hm : Memory.wfFrom lo m = true) :
    Memory.wfFrom lo' m = true := by
  cases m with
  | nil => rfl
  | cons c m =>
    obtain ⟨k, v⟩ := c
    rw [Memory.wfFrom_cons] at hm ⊢
    exact ⟨h.trans hm.1, hm.2⟩

/-- Below its lowest address a canonical memory reads as unlisted. -/
theorem Memory.read_below {lo : Nat} {m : Memory} (hm : Memory.wfFrom lo m = true) {a : Nat} (ha : a < lo) :
    m.read a = Memory.unlisted := by
  induction m generalizing lo with
  | nil => rfl
  | cons c m ih =>
    obtain ⟨k, v⟩ := c
    rw [Memory.wfFrom_cons] at hm
    have hk : k ≠ a := by omega
    simp only [Memory.read, hk, if_false]
    exact ih hm.2.2.2 (by omega)

theorem Memory.wfFrom_write {lo : Nat} {m : Memory} (hm : Memory.wfFrom lo m = true) {a : Nat} (v : Byte)
    (hlo : lo ≤ a) (ha : a < 0x10000) : Memory.wfFrom lo (m.write a v) = true := by
  induction m generalizing lo with
  | nil =>
    by_cases hv : v = Memory.unlisted
    · simp [Memory.write, hv, Memory.wfFrom]
    · rw [Memory.write, if_neg hv, Memory.wfFrom_cons]
      exact ⟨hlo, ha, hv, rfl⟩
  | cons c m ih =>
    obtain ⟨k, w⟩ := c
    have hm' := hm
    rw [Memory.wfFrom_cons] at hm'
    obtain ⟨h1, h2, h3, h4⟩ := hm'
    by_cases hlt : a < k
    · by_cases hv : v = Memory.unlisted
      · simp [Memory.write, hlt, hv, hm]
      · rw [Memory.write, if_pos hlt, if_neg hv, Memory.wfFrom_cons, Memory.wfFrom_cons]
        exact ⟨hlo, ha, hv, by omega, h2, h3, h4⟩
    · by_cases heq : a = k
      · by_cases hv : v = Memory.unlisted
        · rw [Memory.write, if_neg hlt, if_pos heq, if_pos hv]
          exact Memory.wfFrom_mono (by omega) h4
        · rw [Memory.write, if_neg hlt, if_pos heq, if_neg hv, Memory.wfFrom_cons]
          exact ⟨hlo, ha, hv, heq ▸ h4⟩
      · rw [Memory.write, if_neg hlt, if_neg heq, Memory.wfFrom_cons]
        exact ⟨h1, h2, h3, ih h4 (by omega)⟩

/-- The reset state's stores are in canonical form. -/
theorem State.reset_stores_wf : State.reset.mem.wf = true ∧ State.reset.plain.wf = true := ⟨rfl, rfl⟩

/-- Every write in the address space keeps the canonical form. -/
theorem Memory.wf_write {m : Memory} (hm : m.wf = true) {a : Nat} (v : Byte) (ha : a < 0x10000) :
    (m.write a v).wf = true :=
  Memory.wfFrom_write hm v (Nat.zero_le a) ha

theorem Memory.read_write_from {lo : Nat} {m : Memory} (hm : Memory.wfFrom lo m = true) (a b : Nat) (v : Byte) :
    (m.write a v).read b = if b = a then v else m.read b := by
  induction m generalizing lo with
  | nil =>
    by_cases hv : v = Memory.unlisted
    · simp [Memory.write, Memory.read, hv]
    · simp [Memory.write, Memory.read, hv, eq_comm]
  | cons c m ih =>
    obtain ⟨k, w⟩ := c
    rw [Memory.wfFrom_cons] at hm
    obtain ⟨h1, h2, h3, h4⟩ := hm
    have ih := ih h4
    by_cases hlt : a < k
    · have hk : k ≠ a := by omega
      have hbelow := Memory.read_below h4 (a := a) (by omega)
      by_cases hv : v = Memory.unlisted <;> by_cases hb : b = a
      · subst hb; simp [Memory.write, Memory.read, hlt, hv, hk, hbelow]
      · simp [Memory.write, Memory.read, hlt, hv, hb]
      · subst hb; simp [Memory.write, Memory.read, hlt, hv]
      · simp [Memory.write, Memory.read, hlt, hv, hb, Ne.symm hb]
    · by_cases heq : a = k
      · subst heq
        have hbelow := Memory.read_below h4 (a := a) (by omega)
        by_cases hv : v = Memory.unlisted <;> by_cases hb : b = a
        · subst hb; simp [Memory.write, hv, hbelow]
        · simp [Memory.write, Memory.read, hv, hb, Ne.symm hb]
        · subst hb; simp [Memory.write, Memory.read, hv]
        · simp [Memory.write, Memory.read, hv, hb, Ne.symm hb]
      · by_cases hkb : k = b
        · subst hkb
          simp only [Memory.write, hlt, if_false, Memory.read, if_true, Ne.symm heq, heq]
        · simp only [Memory.write, hlt, heq, if_false, Memory.read, hkb]
          exact ih

/-- A read after a write: the byte written at that address, the old byte everywhere else. -/
theorem Memory.read_write {m : Memory} (hm : m.wf = true) (a b : Nat) (v : Byte) :
    (m.write a v).read b = if b = a then v else m.read b :=
  Memory.read_write_from hm a b v

/-- A write never changes another address, whatever the list. -/
theorem Memory.read_write_of_ne (m : Memory) {a b : Nat} (v : Byte) (h : b ≠ a) : (m.write a v).read b = m.read b := by
  induction m with
  | nil => by_cases hv : v = Memory.unlisted <;> simp [Memory.write, Memory.read, hv, h.symm]
  | cons c m ih =>
    obtain ⟨k, w⟩ := c
    by_cases hlt : a < k
    · by_cases hv : v = Memory.unlisted <;> simp [Memory.write, Memory.read, hlt, hv, h.symm]
    · by_cases heq : a = k
      · subst heq
        by_cases hv : v = Memory.unlisted <;> simp [Memory.write, Memory.read, hv, h.symm]
      · simp only [Memory.write, hlt, heq, if_false, Memory.read, ih]

end Sys2Proof.Machine
end

