-- ==== Sys2Proof/Laws/State.lean ====
section
/-! SUPPORT. One lemma per field per named update of the state, so that no later proof unfolds a record update. -/

namespace Sys2Proof.Machine

@[simp] theorem State.setA_a (s : State) (v : Byte) : (s.setA v).a = v := rfl
@[simp] theorem State.setA_x (s : State) (v : Byte) : (s.setA v).x = s.x := rfl
@[simp] theorem State.setA_y (s : State) (v : Byte) : (s.setA v).y = s.y := rfl
@[simp] theorem State.setA_sp (s : State) (v : Byte) : (s.setA v).sp = s.sp := rfl
@[simp] theorem State.setA_pc (s : State) (v : Byte) : (s.setA v).pc = s.pc := rfl
@[simp] theorem State.setA_flags (s : State) (v : Byte) : (s.setA v).flags = s.flags := rfl
@[simp] theorem State.setA_irqPending (s : State) (v : Byte) : (s.setA v).irqPending = s.irqPending := rfl
@[simp] theorem State.setA_nmiPending (s : State) (v : Byte) : (s.setA v).nmiPending = s.nmiPending := rfl
@[simp] theorem State.setA_paused (s : State) (v : Byte) : (s.setA v).paused = s.paused := rfl
@[simp] theorem State.setA_halted (s : State) (v : Byte) : (s.setA v).halted = s.halted := rfl
@[simp] theorem State.setA_cycles (s : State) (v : Byte) : (s.setA v).cycles = s.cycles := rfl
@[simp] theorem State.setA_mem (s : State) (v : Byte) : (s.setA v).mem = s.mem := rfl
@[simp] theorem State.setA_plain (s : State) (v : Byte) : (s.setA v).plain = s.plain := rfl
@[simp] theorem State.setA_inq (s : State) (v : Byte) : (s.setA v).inq = s.inq := rfl
@[simp] theorem State.setA_outq (s : State) (v : Byte) : (s.setA v).outq = s.outq := rfl
@[simp] theorem State.setA_bus (s : State) (v : Byte) : (s.setA v).bus = s.bus := rfl
@[simp] theorem State.setA_params (s : State) (v : Byte) : (s.setA v).params = s.params := rfl
@[simp] theorem State.setA_freqHz (s : State) (v : Byte) : (s.setA v).freqHz = s.freqHz := rfl
@[simp] theorem State.setA_debug (s : State) (v : Byte) : (s.setA v).debug = s.debug := rfl
@[simp] theorem State.setA_report (s : State) (v : Byte) : (s.setA v).report = s.report := rfl

@[simp] theorem State.setX_a (s : State) (v : Byte) : (s.setX v).a = s.a := rfl
@[simp] theorem State.setX_x (s : State) (v : Byte) : (s.setX v).x = v := rfl
@[simp] theorem State.setX_y (s : State) (v : Byte) : (s.setX v).y = s.y := rfl
@[simp] theorem State.setX_sp (s : State) (v : Byte) : (s.setX v).sp = s.sp := rfl
@[simp] theorem State.setX_pc (s : State) (v : Byte) : (s.setX v).pc = s.pc := rfl
@[simp] theorem State.setX_flags (s : State) (v : Byte) : (s.setX v).flags = s.flags := rfl
@[simp] theorem State.setX_irqPending (s : State) (v : Byte) : (s.setX v).irqPending = s.irqPending := rfl
@[simp] theorem State.setX_nmiPending (s : State) (v : Byte) : (s.setX v).nmiPending = s.nmiPending := rfl
@[simp] theorem State.setX_paused (s : State) (v : Byte) : (s.setX v).paused = s.paused := rfl
@[simp] theorem State.setX_halted (s : State) (v : Byte) : (s.setX v).halted = s.halted := rfl
@[simp] theorem State.setX_cycles (s : State) (v : Byte) : (s.setX v).cycles = s.cycles := rfl
@[simp] theorem State.setX_mem (s : State) (v : Byte) : (s.setX v).mem = s.mem := rfl
@[simp] theorem State.setX_plain (s : State) (v : Byte) : (s.setX v).plain = s.plain := rfl
@[simp] theorem State.setX_inq (s : State) (v : Byte) : (s.setX v).inq = s.inq := rfl
@[simp] theorem State.setX_outq (s : State) (v : Byte) : (s.setX v).outq = s.outq := rfl
@[simp] theorem State.setX_bus (s : State) (v : Byte) : (s.setX v).bus = s.bus := rfl
@[simp] theorem State.setX_params (s : State) (v : Byte) : (s.setX v).params = s.params := rfl
@[simp] theorem State.setX_freqHz (s : State) (v : Byte) : (s.setX v).freqHz = s.freqHz := rfl
@[simp] theorem State.setX_debug (s : State) (v : Byte) : (s.setX v).debug = s.debug := rfl
@[simp] theorem State.setX_report (s : State) (v : Byte) : (s.setX v).report = s.report := rfl

@[simp] theorem State.setY_a (s : State) (v : Byte) : (s.setY v).a = s.a := rfl
@[simp] theorem State.setY_x (s : State) (v : Byte) : (s.setY v).x = s.x := rfl
@[simp] theorem State.setY_y (s : State) (v : Byte) : (s.setY v).y = v := rfl
@[simp] theorem State.setY_sp (s : State) (v : Byte) : (s.setY v).sp = s.sp := rfl
@[simp] theorem State.setY_pc (s : State) (v : Byte) : (s.setY v).pc = s.pc := rfl
@[simp] theorem State.setY_flags (s : State) (v : Byte) : (s.setY v).flags = s.flags := rfl
@[simp] theorem State.setY_irqPending (s : State) (v : Byte) : (s.setY v).irqPending = s.irqPending := rfl
@[simp] theorem State.setY_nmiPending (s : State) (v : Byte) : (s.setY v).nmiPending = s.nmiPending := rfl
@[simp] theorem State.setY_paused (s : State) (v : Byte) : (s.setY v).paused = s.paused := rfl
@[simp] theorem State.setY_halted (s : State) (v : Byte) : (s.setY v).halted = s.halted := rfl
@[simp] theorem State.setY_cycles (s : State) (v : Byte) : (s.setY v).cycles = s.cycles := rfl
@[simp] theorem State.setY_mem (s : State) (v : Byte) : (s.setY v).mem = s.mem := rfl
@[simp] theorem State.setY_plain (s : State) (v : Byte) : (s.setY v).plain = s.plain := rfl
@[simp] theorem State.setY_inq (s : State) (v : Byte) : (s.setY v).inq = s.inq := rfl
@[simp] theorem State.setY_outq (s : State) (v : Byte) : (s.setY v).outq = s.outq := rfl
@[simp] theorem State.setY_bus (s : State) (v : Byte) : (s.setY v).bus = s.bus := rfl
@[simp] theorem State.setY_params (s : State) (v : Byte) : (s.setY v).params = s.params := rfl
@[simp] theorem State.setY_freqHz (s : State) (v : Byte) : (s.setY v).freqHz = s.freqHz := rfl
@[simp] theorem State.setY_debug (s : State) (v : Byte) : (s.setY v).debug = s.debug := rfl
@[simp] theorem State.setY_report (s : State) (v : Byte) : (s.setY v).report = s.report := rfl

@[simp] theorem State.setSp_a (s : State) (v : Byte) : (s.setSp v).a = s.a := rfl
@[simp] theorem State.setSp_x (s : State) (v : Byte) : (s.setSp v).x = s.x := rfl
@[simp] theorem State.setSp_y (s : State) (v : Byte) : (s.setSp v).y = s.y := rfl
@[simp] theorem State.setSp_sp (s : State) (v : Byte) : (s.setSp v).sp = v := rfl
@[simp] theorem State.setSp_pc (s : State) (v : Byte) : (s.setSp v).pc = s.pc := rfl
@[simp] theorem State.setSp_flags (s : State) (v : Byte) : (s.setSp v).flags = s.flags := rfl
@[simp] theorem State.setSp_irqPending (s : State) (v : Byte) : (s.setSp v).irqPending = s.irqPending := rfl
@[simp] theorem State.setSp_nmiPending (s : State) (v : Byte) : (s.setSp v).nmiPending = s.nmiPending := rfl
@[simp] theorem State.setSp_paused (s : State) (v : Byte) : (s.setSp v).paused = s.paused := rfl
@[simp] theorem State.setSp_halted (s : State) (v : Byte) : (s.setSp v).halted = s.halted := rfl
@[simp] theorem State.setSp_cycles (s : State) (v : Byte) : (s.setSp v).cycles = s.cycles := rfl
@[simp] theorem State.setSp_mem (s : State) (v : Byte) : (s.setSp v).mem = s.mem := rfl
@[simp] theorem State.setSp_plain (s : State) (v : Byte) : (s.setSp v).plain = s.plain := rfl
@[simp] theorem State.setSp_inq (s : State) (v : Byte) : (s.setSp v).inq = s.inq := rfl
@[simp] theorem State.setSp_outq (s : State) (v : Byte) : (s.setSp v).outq = s.outq := rfl
@[simp] theorem State.setSp_bus (s : State) (v : Byte) : (s.setSp v).bus = s.bus := rfl
@[simp] theorem State.setSp_params (s : State) (v : Byte) : (s.setSp v).params = s.params := rfl
@[simp] theorem State.setSp_freqHz (s : State) (v : Byte) : (s.setSp v).freqHz = s.freqHz := rfl
@[simp] theorem State.setSp_debug (s : State) (v : Byte) : (s.setSp v).debug = s.debug := rfl
@[simp] theorem State.setSp_report (s : State) (v : Byte) : (s.setSp v).report = s.report := rfl

@[simp] theorem State.setPc_a (s : State) (v : Word) : (s.setPc v).a = s.a := rfl
@[simp] theorem State.setPc_x (s : State) (v : Word) : (s.setPc v).x = s.x := rfl
@[simp] theorem State.setPc_y (s : State) (v : Word) : (s.setPc v).y = s.y := rfl
@[simp] theorem State.setPc_sp (s : State) (v : Word) : (s.setPc v).sp = s.sp := rfl
@[simp] theorem State.setPc_pc (s : State) (v : Word) : (s.setPc v).pc = v := rfl
@[simp] theorem State.setPc_flags (s : State) (v : Word) : (s.setPc v).flags = s.flags := rfl
@[simp] theorem State.setPc_irqPending (s : State) (v : Word) : (s.setPc v).irqPending = s.irqPending := rfl
@[simp] theorem State.setPc_nmiPending (s : State) (v : Word) : (s.setPc v).nmiPending = s.nmiPending := rfl
@[simp] theorem State.setPc_paused (s : State) (v : Word) : (s.setPc v).paused = s.paused := rfl
@[simp] theorem State.setPc_halted (s : State) (v : Word) : (s.setPc v).halted = s.halted := rfl
@[simp] theorem State.setPc_cycles (s : State) (v : Word) : (s.setPc v).cycles = s.cycles := rfl
@[simp] theorem State.setPc_mem (s : State) (v : Word) : (s.setPc v).mem = s.mem := rfl
@[simp] theorem State.setPc_plain (s : State) (v : Word) : (s.setPc v).plain = s.plain := rfl
@[simp] theorem State.setPc_inq (s : State) (v : Word) : (s.setPc v).inq = s.inq := rfl
@[simp] theorem State.setPc_outq (s : State) (v : Word) : (s.setPc v).outq = s.outq := rfl
@[simp] theorem State.setPc_bus (s : State) (v : Word) : (s.setPc v).bus = s.bus := rfl
@[simp] theorem State.setPc_params (s : State) (v : Word) : (s.setPc v).params = s.params := rfl
@[simp] theorem State.setPc_freqHz (s : State) (v : Word) : (s.setPc v).freqHz = s.freqHz := rfl
@[simp] theorem State.setPc_debug (s : State) (v : Word) : (s.setPc v).debug = s.debug := rfl
@[simp] theorem State.setPc_report (s : State) (v : Word) : (s.setPc v).report = s.report := rfl

@[simp] theorem State.setFlags_a (s : State) (f : Flags) : (s.setFlags f).a = s.a := rfl
@[simp] theorem State.setFlags_x (s : State) (f : Flags) : (s.setFlags f).x = s.x := rfl
@[simp] theorem State.setFlags_y (s : State) (f : Flags) : (s.setFlags f).y = s.y := rfl
@[simp] theorem State.setFlags_sp (s : State) (f : Flags) : (s.setFlags f).sp = s.sp := rfl
@[simp] theorem State.setFlags_pc (s : State) (f : Flags) : (s.setFlags f).pc = s.pc := rfl
@[simp] theorem State.setFlags_flags (s : State) (f : Flags) : (s.setFlags f).flags = f := rfl
@[simp] theorem State.setFlags_irqPending (s : State) (f : Flags) : (s.setFlags f).irqPending = s.irqPending := rfl
@[simp] theorem State.setFlags_nmiPending (s : State) (f : Flags) : (s.setFlags f).nmiPending = s.nmiPending := rfl
@[simp] theorem State.setFlags_paused (s : State) (f : Flags) : (s.setFlags f).paused = s.paused := rfl
@[simp] theorem State.setFlags_halted (s : State) (f : Flags) : (s.setFlags f).halted = s.halted := rfl
@[simp] theorem State.setFlags_cycles (s : State) (f : Flags) : (s.setFlags f).cycles = s.cycles := rfl
@[simp] theorem State.setFlags_mem (s : State) (f : Flags) : (s.setFlags f).mem = s.mem := rfl
@[simp] theorem State.setFlags_plain (s : State) (f : Flags) : (s.setFlags f).plain = s.plain := rfl
@[simp] theorem State.setFlags_inq (s : State) (f : Flags) : (s.setFlags f).inq = s.inq := rfl
@[simp] theorem State.setFlags_outq (s : State) (f : Flags) : (s.setFlags f).outq = s.outq := rfl
@[simp] theorem State.setFlags_bus (s : State) (f : Flags) : (s.setFlags f).bus = s.bus := rfl
@[simp] theorem State.setFlags_params (s : State) (f : Flags) : (s.setFlags f).params = s.params := rfl
@[simp] theorem State.setFlags_freqHz (s : State) (f : Flags) : (s.setFlags f).freqHz = s.freqHz := rfl
@[simp] theorem State.setFlags_debug (s : State) (f : Flags) : (s.setFlags f).debug = s.debug := rfl
@[simp] theorem State.setFlags_report (s : State) (f : Flags) : (s.setFlags f).report = s.report := rfl

@[simp] theorem State.setZN_a (s : State) (v : Byte) : (s.setZN v).a = s.a := rfl
@[simp] theorem State.setZN_x (s : State) (v : Byte) : (s.setZN v).x = s.x := rfl
@[simp] theorem State.setZN_y (s : State) (v : Byte) : (s.setZN v).y = s.y := rfl
@[simp] theorem State.setZN_sp (s : State) (v : Byte) : (s.setZN v).sp = s.sp := rfl
@[simp] theorem State.setZN_pc (s : State) (v : Byte) : (s.setZN v).pc = s.pc := rfl
@[simp] theorem State.setZN_flags (s : State) (v : Byte) : (s.setZN v).flags = s.flags.withZN v := rfl
@[simp] theorem State.setZN_irqPending (s : State) (v : Byte) : (s.setZN v).irqPending = s.irqPending := rfl
@[simp] theorem State.setZN_nmiPending (s : State) (v : Byte) : (s.setZN v).nmiPending = s.nmiPending := rfl
@[simp] theorem State.setZN_paused (s : State) (v : Byte) : (s.setZN v).paused = s.paused := rfl
@[simp] theorem State.setZN_halted (s : State) (v : Byte) : (s.setZN v).halted = s.halted := rfl
@[simp] theorem State.setZN_cycles (s : State) (v : Byte) : (s.setZN v).cycles = s.cycles := rfl
@[simp] theorem State.setZN_mem (s : State) (v : Byte) : (s.setZN v).mem = s.mem := rfl
@[simp] theorem State.setZN_plain (s : State) (v : Byte) : (s.setZN v).plain = s.plain := rfl
@[simp] theorem State.setZN_inq (s : State) (v : Byte) : (s.setZN v).inq = s.inq := rfl
@[simp] theorem State.setZN_outq (s : State) (v : Byte) : (s.setZN v).outq = s.outq := rfl
@[simp] theorem State.setZN_bus (s : State) (v : Byte) : (s.setZN v).bus = s.bus := rfl
@[simp] theorem State.setZN_params (s : State) (v : Byte) : (s.setZN v).params = s.params := rfl
@[simp] theorem State.setZN_freqHz (s : State) (v : Byte) : (s.setZN v).freqHz = s.freqHz := rfl
@[simp] theorem State.setZN_debug (s : State) (v : Byte) : (s.setZN v).debug = s.debug := rfl
@[simp] theorem State.setZN_report (s : State) (v : Byte) : (s.setZN v).report = s.report := rfl

@[simp] theorem State.account_a (s : State) (n : Nat) : (s.account n).a = s.a := rfl
@[simp] theorem State.account_x (s : State) (n : Nat) : (s.account n).x = s.x := rfl
@[simp] theorem State.account_y (s : State) (n : Nat) : (s.account n).y = s.y := rfl
@[simp] theorem State.account_sp (s : State) (n : Nat) : (s.account n).sp = s.sp := rfl
@[simp] theorem State.account_pc (s : State) (n : Nat) : (s.account n).pc = s.pc := rfl
@[simp] theorem State.account_flags (s : State) (n : Nat) : (s.account n).flags = s.flags := rfl
@[simp] theorem State.account_irqPending (s : State) (n : Nat) : (s.account n).irqPending = s.irqPending := rfl
@[simp] theorem State.account_nmiPending (s : State) (n : Nat) : (s.account n).nmiPending = s.nmiPending := rfl
@[simp] theorem State.account_paused (s : State) (n : Nat) : (s.account n).paused = s.paused := rfl
@[simp] theorem State.account_halted (s : State) (n : Nat) : (s.account n).halted = s.halted := rfl
@[simp] theorem State.account_cycles (s : State) (n : Nat) : (s.account n).cycles = s.cycles + n := rfl
@[simp] theorem State.account_mem (s : State) (n : Nat) : (s.account n).mem = s.mem := rfl
@[simp] theorem State.account_plain (s : State) (n : Nat) : (s.account n).plain = s.plain := rfl
@[simp] theorem State.account_inq (s : State) (n : Nat) : (s.account n).inq = s.inq := rfl
@[simp] theorem State.account_outq (s : State) (n : Nat) : (s.account n).outq = s.outq := rfl
@[simp] theorem State.account_bus (s : State) (n : Nat) : (s.account n).bus = s.bus := rfl
@[simp] theorem State.account_params (s : State) (n : Nat) : (s.account n).params = s.params := rfl
@[simp] theorem State.account_freqHz (s : State) (n : Nat) : (s.account n).freqHz = s.freqHz := rfl
@[simp] theorem State.account_debug (s : State) (n : Nat) : (s.account n).debug = s.debug := rfl
@[simp] theorem State.account_report (s : State) (n : Nat) : (s.account n).report = .ok n := rfl

@[simp] theorem State.raiseInvalidOpcode_a (s : State) (op : Byte) : (s.raiseInvalidOpcode op).a = s.a := rfl
@[simp] theorem State.raiseInvalidOpcode_x (s : State) (op : Byte) : (s.raiseInvalidOpcode op).x = s.x := rfl
@[simp] theorem State.raiseInvalidOpcode_y (s : State) (op : Byte) : (s.raiseInvalidOpcode op).y = s.y := rfl
@[simp] theorem State.raiseInvalidOpcode_sp (s : State) (op : Byte) : (s.raiseInvalidOpcode op).sp = s.sp := rfl
@[simp] theorem State.raiseInvalidOpcode_pc (s : State) (op : Byte) : (s.raiseInvalidOpcode op).pc = s.pc := rfl
@[simp] theorem State.raiseInvalidOpcode_flags (s : State) (op : Byte) : (s.raiseInvalidOpcode op).flags = s.flags := rfl
@[simp] theorem State.raiseInvalidOpcode_irqPending (s : State) (op : Byte) : (s.raiseInvalidOpcode op).irqPending = s.irqPending := rfl
@[simp] theorem State.raiseInvalidOpcode_nmiPending (s : State) (op : Byte) : (s.raiseInvalidOpcode op).nmiPending = s.nmiPending := rfl
@[simp] theorem State.raiseInvalidOpcode_paused (s : State) (op : Byte) : (s.raiseInvalidOpcode op).paused = s.paused := rfl
@[simp] theorem State.raiseInvalidOpcode_halted (s : State) (op : Byte) : (s.raiseInvalidOpcode op).halted = true := rfl
@[simp] theorem State.raiseInvalidOpcode_cycles (s : State) (op : Byte) : (s.raiseInvalidOpcode op).cycles = s.cycles := rfl
@[simp] theorem State.raiseInvalidOpcode_mem (s : State) (op : Byte) : (s.raiseInvalidOpcode op).mem = s.mem := rfl
@[simp] theorem State.raiseInvalidOpcode_plain (s : State) (op : Byte) : (s.raiseInvalidOpcode op).plain = s.plain := rfl
@[simp] theorem State.raiseInvalidOpcode_inq (s : State) (op : Byte) : (s.raiseInvalidOpcode op).inq = s.inq := rfl
@[simp] theorem State.raiseInvalidOpcode_outq (s : State) (op : Byte) : (s.raiseInvalidOpcode op).outq = s.outq := rfl
@[simp] theorem State.raiseInvalidOpcode_bus (s : State) (op : Byte) : (s.raiseInvalidOpcode op).bus = s.bus := rfl
@[simp] theorem State.raiseInvalidOpcode_params (s : State) (op : Byte) : (s.raiseInvalidOpcode op).params = s.params := rfl
@[simp] theorem State.raiseInvalidOpcode_freqHz (s : State) (op : Byte) : (s.raiseInvalidOpcode op).freqHz = s.freqHz := rfl
@[simp] theorem State.raiseInvalidOpcode_debug (s : State) (op : Byte) : (s.raiseInvalidOpcode op).debug = s.debug := rfl
@[simp] theorem State.raiseInvalidOpcode_report (s : State) (op : Byte) : (s.raiseInvalidOpcode op).report = .invalidOpcode (s.pc - 1) op := rfl

end Sys2Proof.Machine
end

