-- ==== Sys2Proof/Laws/Ops.lean ====
section
/-! SUPPORT. What each shared operation can do, said once: a CPU read changes only the input queue, a CPU write only the two stores and the output queue, a push and a pull also SP, an entry and a return also PC and the flags. -/

namespace Sys2Proof.Machine

/-! ### Queues (R148) -/

@[simp] theorem dequeue_nil : dequeue [] = (none, []) := rfl
@[simp] theorem dequeue_cons (b : Byte) (q : List Byte) : dequeue (b :: q) = (some b, q) := rfl
@[simp] theorem queueIsEmpty_nil : queueIsEmpty [] = true := rfl
@[simp] theorem queueIsEmpty_cons (b : Byte) (q : List Byte) : queueIsEmpty (b :: q) = false := rfl
@[simp] theorem queueIsEmpty_clear (q : List Byte) : queueIsEmpty (queueClear q) = true := rfl

/-- `enqueue` accepts a byte at the end of the queue below its capacity, and rejects it on a full queue. -/
theorem enqueue_eq (q : List Byte) (b : Byte) :
    (q.length < Config.qcap → enqueue q b = q ++ [b]) ∧ (Config.qcap ≤ q.length → enqueue q b = q) :=
  ⟨fun h => if_pos h, fun h => if_neg (Nat.not_lt.mpr h)⟩

/-- First in, first out: whatever is enqueued behind it, the oldest byte is dequeued first. -/
theorem dequeue_enqueue (b c : Byte) (q : List Byte) : (dequeue (enqueue (b :: q) c)).1 = some b := by
  unfold enqueue
  split <;> rfl

/-! ### Reads -/

/-- The byte of a CPU read (R33). -/
def State.readValue (s : State) (addr : Word) : Byte :=
  if addr = serialIn then s.inq.headD 0x00 else s.busRead addr

/-- The input queue after a CPU read (R33). -/
def inqAfterRead (q : List Byte) (addr : Word) : List Byte := if addr = serialIn then q.tail else q

/-- Everything a CPU read can do. -/
theorem State.memRead_eq (s : State) (addr : Word) :
    s.memRead addr = (s.readValue addr, { s with inq := inqAfterRead s.inq addr }) := by
  unfold State.memRead State.readValue inqAfterRead
  by_cases h : addr = serialIn
  · rcases s with ⟨_, _, _, _, _, _, _, _, _, _, _, _, _, _ | ⟨_, _⟩, _, _, _, _, _, _⟩ <;> simp [h]
  · simp [h]

theorem inqAfterRead_length (q : List Byte) (addr : Word) : (inqAfterRead q addr).length ≤ q.length := by
  unfold inqAfterRead
  split <;> simp

theorem inqAfterRead_suffix (q : List Byte) (addr : Word) : inqAfterRead q addr <:+ q := by
  unfold inqAfterRead
  split
  · exact List.tail_suffix q
  · exact List.suffix_rfl

@[simp] theorem inqAfterRead_of_ne (q : List Byte) {addr : Word} (h : addr ≠ serialIn) : inqAfterRead q addr = q := by
  simp [inqAfterRead, h]

/-- A bus read does not look at the queues, the registers, the latches, the counters or the report. -/
theorem State.busRead_congr {s t : State} (hm : t.mem = s.mem) (hp : t.plain = s.plain) (hb : t.bus = s.bus)
    (hs : t.params = s.params) (addr : Word) : t.busRead addr = s.busRead addr := by
  simp [State.busRead, State.plainRead, hm, hp, hb, hs]

/-- Everything `Read16` can do (R30). -/
theorem State.read16_snd (s : State) (addr : Word) :
    (s.read16 addr).2 = { s with inq := inqAfterRead (inqAfterRead s.inq addr) (addr + 1) } := by
  simp [State.read16, State.memRead_eq]

theorem State.read16_fst (s : State) (addr : Word) :
    (s.read16 addr).1 =
      wordOf (({ s with inq := inqAfterRead s.inq addr } : State).readValue (addr + 1)) (s.readValue addr) := by
  simp [State.read16, State.memRead_eq]

theorem zext16_ne_serialIn (z : Byte) : zext16 z ≠ serialIn := by
  revert z
  decide

theorem zext16_ne_serialOut (z : Byte) : zext16 z ≠ serialOut := by
  revert z
  decide

theorem stackAddr_ne_serialIn (z : Byte) : stackAddr z ≠ serialIn := by
  revert z
  decide

theorem stackAddr_ne_serialOut (z : Byte) : stackAddr z ≠ serialOut := by
  revert z
  decide

/-- Everything `ReadZP16` can do (R31): the zero page is not a port, so the state is kept. -/
theorem State.readZP16_eq (s : State) (z : Byte) :
    s.readZP16 z = (wordOf (s.busRead (zext16 (z + 1))) (s.busRead (zext16 z)), s) := by
  simp [State.readZP16, State.memRead, zext16_ne_serialIn]

/-! ### Writes -/

/-- The monitored RAM's store after a CPU write. -/
def State.memAfter (s : State) (addr : Word) (b : Byte) : Memory :=
  if addr ≠ serialOut ∧ route s.bus addr = some .monitoredRam then s.mem.write addr.toNat b else s.mem

/-- The plain RAM's store after a CPU write. -/
def State.plainAfter (s : State) (addr : Word) (b : Byte) : Memory :=
  if addr ≠ serialOut ∧ route s.bus addr = some .plainRam ∧ addr.toNat < s.params.plainRamSize then
    s.plain.write addr.toNat b
  else s.plain

/-- The output queue after a CPU write. -/
def State.outqAfter (s : State) (addr : Word) (b : Byte) : List Byte :=
  if addr = serialOut then enqueue s.outq b
  else if route s.bus addr = some .monitoredRam then enqueueAll s.outq (hookOutput addr b)
  else s.outq

/-- Everything a CPU write can do (R34). -/
theorem State.memWrite_eq (s : State) (addr : Word) (b : Byte) :
    s.memWrite addr b =
      { s with mem := s.memAfter addr b, plain := s.plainAfter addr b, outq := s.outqAfter addr b } := by
  unfold State.memWrite State.memAfter State.plainAfter State.outqAfter
  by_cases h : addr = serialOut
  · simp [h]
  · simp only [h, if_false, State.busWrite]
    cases hr : route s.bus addr with
    | none => simp
    | some d =>
      cases d with
      | monitoredRam => simp [State.monitoredWrite, h]
      | plainRam => by_cases hs : addr.toNat < s.params.plainRamSize <;> simp [State.plainWrite, hs, h]

theorem enqueue_length {q : List Byte} (h : q.length ≤ Config.qcap) (b : Byte) : (enqueue q b).length ≤ Config.qcap := by
  unfold enqueue
  split
  · simp only [List.length_append, List.length_cons, List.length_nil]; omega
  · exact h

theorem enqueue_prefix (q : List Byte) (b : Byte) : q <+: enqueue q b := by
  unfold enqueue
  split
  · exact List.prefix_append q [b]
  · exact List.prefix_rfl

theorem enqueueAll_length {q : List Byte} (h : q.length ≤ Config.qcap) (bs : List Byte) :
    (enqueueAll q bs).length ≤ Config.qcap := by
  induction bs generalizing q with
  | nil => exact h
  | cons b bs ih => exact ih (enqueue_length h b)

theorem enqueueAll_prefix (q bs : List Byte) : q <+: enqueueAll q bs := by
  induction bs generalizing q with
  | nil => exact List.prefix_rfl
  | cons b bs ih => exact (enqueue_prefix q b).trans (ih (enqueue q b))

theorem State.outqAfter_length {s : State} (h : s.outq.length ≤ Config.qcap) (addr : Word) (b : Byte) :
    (s.outqAfter addr b).length ≤ Config.qcap := by
  unfold State.outqAfter
  split
  · exact enqueue_length h b
  · split
    · exact enqueueAll_length h _
    · exact h

theorem State.outqAfter_prefix (s : State) (addr : Word) (b : Byte) : s.outq <+: s.outqAfter addr b := by
  unfold State.outqAfter
  split
  · exact enqueue_prefix _ _
  · split
    · exact enqueueAll_prefix _ _
    · exact List.prefix_rfl

theorem State.memAfter_wf {s : State} (h : s.mem.wf = true) (addr : Word) (b : Byte) : (s.memAfter addr b).wf = true := by
  unfold State.memAfter
  split
  · exact Memory.wf_write h b addr.isLt
  · exact h

theorem State.plainAfter_wf {s : State} (h : s.plain.wf = true) (addr : Word) (b : Byte) : (s.plainAfter addr b).wf = true := by
  unfold State.plainAfter
  split
  · exact Memory.wf_write h b addr.isLt
  · exact h

/-- A CPU write changes no byte the bus reads at another address. -/
theorem State.busRead_memWrite_of_ne (s : State) {addr other : Word} (b : Byte) (h : other ≠ addr) :
    (s.memWrite addr b).busRead other = s.busRead other := by
  have hn : other.toNat ≠ addr.toNat := fun e => h (BitVec.eq_of_toNat_eq e)
  rw [State.memWrite_eq]
  unfold State.memAfter State.plainAfter State.busRead State.plainRead
  cases route s.bus other with
  | none => rfl
  | some d =>
    cases d with
    | monitoredRam => dsimp only; split <;> simp [Memory.read_write_of_ne _ _ hn]
    | plainRam =>
      dsimp only
      split
      · split <;> simp [Memory.read_write_of_ne _ _ hn]
      · rfl

/-! ### The stack -/

/-- Everything `Push` can do (R32). -/
theorem State.push_eq (s : State) (v : Byte) :
    s.push v =
      { s with
        mem := s.memAfter (stackAddr s.sp) v, plain := s.plainAfter (stackAddr s.sp) v,
        outq := s.outqAfter (stackAddr s.sp) v, sp := s.sp - 1 } := by
  simp [State.push, State.memWrite_eq, State.setSp]

/-- Everything `Pull` can do (R32): page 1 is not a port. -/
theorem State.pull_eq (s : State) : s.pull = (s.busRead (stackAddr (s.sp + 1)), s.setSp (s.sp + 1)) := by
  simp only [State.pull, State.memRead, stackAddr_ne_serialIn, if_false]
  exact Prod.ext rfl rfl

/-- Everything two pulls can do. -/
theorem State.pull16_eq (s : State) :
    s.pull16 =
      (wordOf (s.busRead (stackAddr (s.sp + 1 + 1))) (s.busRead (stackAddr (s.sp + 1))), s.setSp (s.sp + 1 + 1)) := by
  simp only [State.pull16, State.pull_eq]
  exact Prod.ext rfl rfl

/-! ### Interrupts -/

/-- Everything an interrupt entry can do (R140): the two vector addresses are no ports, so only the pushes, the flag I and PC. -/
theorem State.intEntry_eq (s : State) (vector : Word) (bits : Byte) (h0 : vector ≠ serialIn) (h1 : vector + 1 ≠ serialIn) :
    s.intEntry vector bits =
      ((s.pushFrame bits).setFlags { (s.pushFrame bits).flags with i := true }).setPc
        (wordOf ((s.pushFrame bits).busRead (vector + 1)) ((s.pushFrame bits).busRead vector)) := by
  simp only [State.intEntry, State.read16, State.memRead, h0, h1, if_false]
  rfl

/-- Everything a return can do (R117). -/
theorem State.intReturn_eq (s : State) :
    s.intReturn =
      { s with
        flags := Flags.ofByte (s.busRead (stackAddr (s.sp + 1)))
        sp := s.sp + 1 + 1 + 1
        pc := wordOf (s.busRead (stackAddr (s.sp + 1 + 1 + 1))) (s.busRead (stackAddr (s.sp + 1 + 1))) } := by
  simp only [State.intReturn, State.pull_eq, State.pull16_eq]
  rfl

end Sys2Proof.Machine
end

