-- ==== Sys2Proof/Laws/Operands.lean ====
section
/-! SUPPORT. What the operand forms and the shared shapes of instructions can do, said once. -/

namespace Sys2Proof.Machine

/-- The effective address of each mode (R59 to R68) as a function of the state alone. -/
def MemOperand.ea : MemOperand → State → Ea
  | .zp z, _ => { addr := zext16 z, crossed := false }
  | .zpX z, s => { addr := zext16 (z + s.x), crossed := false }
  | .zpY z, s => { addr := zext16 (z + s.y), crossed := false }
  | .abs a, _ => { addr := a, crossed := false }
  | .absX a, s => indexed a s.x
  | .absY a, s => indexed a s.y
  | .indX z, s => { addr := wordOf (s.busRead (zext16 (z + s.x + 1))) (s.busRead (zext16 (z + s.x))), crossed := false }
  | .indY z, s => indexed (wordOf (s.busRead (zext16 (z + 1))) (s.busRead (zext16 z))) s.y

/-- No mode of a memory operand changes the state: its pointers are in the zero page, which is no port. -/
theorem MemOperand.resolve_eq (m : MemOperand) (s : State) : m.resolve s = (m.ea s, s) := by
  cases m <;> simp [MemOperand.resolve, MemOperand.ea, State.readZP16_eq]

/-- The value, the page-cross flag and the state after `LoadOp` of a memory operand. -/
theorem Source.load_mem (m : MemOperand) (s : State) :
    (Source.mem m).load s =
      { value := s.readValue (m.ea s).addr, crossed := (m.ea s).crossed,
        after := { s with inq := inqAfterRead s.inq (m.ea s).addr } } := by
  simp [Source.load, MemOperand.resolve_eq, State.memRead_eq]

@[simp] theorem Source.load_imm (v : Byte) (s : State) :
    (Source.imm v).load s = { value := v, crossed := false, after := s } := rfl

/-- Everything `LoadOp` can do to the state: the input queue loses at most its first byte. -/
theorem Source.load_after (src : Source) (s : State) : ∃ q, q <:+ s.inq ∧ (src.load s).after = { s with inq := q } := by
  cases src with
  | imm v => exact ⟨s.inq, List.suffix_rfl, rfl⟩
  | mem m => exact ⟨_, inqAfterRead_suffix _ _, by rw [Source.load_mem]⟩

/-- A store instruction writes once, at its effective address. -/
theorem storeMem_eq (m : MemOperand) (v : Byte) (base : Nat) (s : State) :
    storeMem m v base s = .next ((s.memWrite (m.ea s).addr v).account base) := by
  simp [storeMem, MemOperand.resolve_eq, finish]

/-- A read-modify-write reads once and writes once, at its effective address. -/
theorem modifyMem_eq (f : Flags → Byte → Effect) (m : MemOperand) (base : Nat) (s : State) :
    modifyMem f m base s =
      .next (((({ s with inq := inqAfterRead s.inq (m.ea s).addr } : State).memWrite (m.ea s).addr
        (f s.flags (s.readValue (m.ea s).addr)).result).setFlags (f s.flags (s.readValue (m.ea s).addr)).flags).account base) := by
  simp [modifyMem, MemOperand.resolve_eq, State.memRead_eq, finish]

/-- Everything the two reads of an indirect jump can do (R66). -/
theorem State.readIndirect_snd (s : State) (p : Word) :
    (s.readIndirect p).2 = { s with inq := inqAfterRead (inqAfterRead s.inq p) (indirectHigh p) } := by
  simp [State.readIndirect, State.memRead_eq]

end Sys2Proof.Machine
end

