-- ==== Sys2Proof/Laws/PerInstr.lean ====
section
/-! SUPPORT. Statements made per instruction. `EncodedLength`: a well-formed instruction's encoding has as many bytes as the format of its opcode's row says (R51): one for implied and accumulator, two for one operand byte, three for two. -/

namespace Sys2Proof.Laws

/-- The length of an instruction whose opcode is `op` (R51). -/
def rowLength (op : Byte) : Nat :=
  match decodeRow op with
  | none => 1
  | some (.bare _) => 1
  | some (.one _) => 2
  | some (.two _) => 3

namespace EncodedLength

/-- The encoding starts with an opcode byte and has the length of that opcode's row. -/
def Statement (i : Instr) : Prop :=
  i.wellFormed = true → (encode i).length = rowLength ((encode i).headD 0)

theorem of_row {i : Instr} {op : Byte} {rest : List Byte} (h : encode i = op :: rest) (hl : rest.length + 1 = rowLength op) :
    Statement i := by
  intro _
  simp [h, hl]

theorem ldaImm (v : Byte) : Statement (.ldaImm v) := of_row (op := 0xA9) (rest := [v]) rfl rfl
theorem ldaZp (z : Byte) : Statement (.ldaZp z) := of_row (op := 0xA5) (rest := [z]) rfl rfl
theorem ldaZpX (z : Byte) : Statement (.ldaZpX z) := of_row (op := 0xB5) (rest := [z]) rfl rfl
theorem ldaAbs (a : Word) : Statement (.ldaAbs a) := of_row (op := 0xAD) (rest := [loByte a, hiByte a]) rfl rfl
theorem ldaAbsX (a : Word) : Statement (.ldaAbsX a) := of_row (op := 0xBD) (rest := [loByte a, hiByte a]) rfl rfl
theorem ldaAbsY (a : Word) : Statement (.ldaAbsY a) := of_row (op := 0xB9) (rest := [loByte a, hiByte a]) rfl rfl
theorem ldaIndX (z : Byte) : Statement (.ldaIndX z) := of_row (op := 0xA1) (rest := [z]) rfl rfl
theorem ldaIndY (z : Byte) : Statement (.ldaIndY z) := of_row (op := 0xB1) (rest := [z]) rfl rfl
theorem ldxImm (v : Byte) : Statement (.ldxImm v) := of_row (op := 0xA2) (rest := [v]) rfl rfl
theorem ldxZp (z : Byte) : Statement (.ldxZp z) := of_row (op := 0xA6) (rest := [z]) rfl rfl
theorem ldxZpY (z : Byte) : Statement (.ldxZpY z) := of_row (op := 0xB6) (rest := [z]) rfl rfl
theorem ldxAbs (a : Word) : Statement (.ldxAbs a) := of_row (op := 0xAE) (rest := [loByte a, hiByte a]) rfl rfl
theorem ldxAbsY (a : Word) : Statement (.ldxAbsY a) := of_row (op := 0xBE) (rest := [loByte a, hiByte a]) rfl rfl
theorem ldyImm (v : Byte) : Statement (.ldyImm v) := of_row (op := 0xA0) (rest := [v]) rfl rfl
theorem ldyZp (z : Byte) : Statement (.ldyZp z) := of_row (op := 0xA4) (rest := [z]) rfl rfl
theorem ldyZpX (z : Byte) : Statement (.ldyZpX z) := of_row (op := 0xB4) (rest := [z]) rfl rfl
theorem ldyAbs (a : Word) : Statement (.ldyAbs a) := of_row (op := 0xAC) (rest := [loByte a, hiByte a]) rfl rfl
theorem ldyAbsX (a : Word) : Statement (.ldyAbsX a) := of_row (op := 0xBC) (rest := [loByte a, hiByte a]) rfl rfl
theorem staZp (z : Byte) : Statement (.staZp z) := of_row (op := 0x85) (rest := [z]) rfl rfl
theorem staZpX (z : Byte) : Statement (.staZpX z) := of_row (op := 0x95) (rest := [z]) rfl rfl
theorem staAbs (a : Word) : Statement (.staAbs a) := of_row (op := 0x8D) (rest := [loByte a, hiByte a]) rfl rfl
theorem staAbsX (a : Word) : Statement (.staAbsX a) := of_row (op := 0x9D) (rest := [loByte a, hiByte a]) rfl rfl
theorem staAbsY (a : Word) : Statement (.staAbsY a) := of_row (op := 0x99) (rest := [loByte a, hiByte a]) rfl rfl
theorem staIndX (z : Byte) : Statement (.staIndX z) := of_row (op := 0x81) (rest := [z]) rfl rfl
theorem staIndY (z : Byte) : Statement (.staIndY z) := of_row (op := 0x91) (rest := [z]) rfl rfl
theorem stxZp (z : Byte) : Statement (.stxZp z) := of_row (op := 0x86) (rest := [z]) rfl rfl
theorem stxZpY (z : Byte) : Statement (.stxZpY z) := of_row (op := 0x96) (rest := [z]) rfl rfl
theorem stxAbs (a : Word) : Statement (.stxAbs a) := of_row (op := 0x8E) (rest := [loByte a, hiByte a]) rfl rfl
theorem styZp (z : Byte) : Statement (.styZp z) := of_row (op := 0x84) (rest := [z]) rfl rfl
theorem styZpX (z : Byte) : Statement (.styZpX z) := of_row (op := 0x94) (rest := [z]) rfl rfl
theorem styAbs (a : Word) : Statement (.styAbs a) := of_row (op := 0x8C) (rest := [loByte a, hiByte a]) rfl rfl
theorem tax : Statement (.tax) := of_row (op := 0xAA) (rest := []) rfl rfl
theorem tay : Statement (.tay) := of_row (op := 0xA8) (rest := []) rfl rfl
theorem txa : Statement (.txa) := of_row (op := 0x8A) (rest := []) rfl rfl
theorem tya : Statement (.tya) := of_row (op := 0x98) (rest := []) rfl rfl
theorem tsx : Statement (.tsx) := of_row (op := 0xBA) (rest := []) rfl rfl
theorem txs : Statement (.txs) := of_row (op := 0x9A) (rest := []) rfl rfl
theorem pha : Statement (.pha) := of_row (op := 0x48) (rest := []) rfl rfl
theorem php : Statement (.php) := of_row (op := 0x08) (rest := []) rfl rfl
theorem pla : Statement (.pla) := of_row (op := 0x68) (rest := []) rfl rfl
theorem plp : Statement (.plp) := of_row (op := 0x28) (rest := []) rfl rfl
theorem adcImm (v : Byte) : Statement (.adcImm v) := of_row (op := 0x69) (rest := [v]) rfl rfl
theorem adcZp (z : Byte) : Statement (.adcZp z) := of_row (op := 0x65) (rest := [z]) rfl rfl
theorem adcZpX (z : Byte) : Statement (.adcZpX z) := of_row (op := 0x75) (rest := [z]) rfl rfl
theorem adcAbs (a : Word) : Statement (.adcAbs a) := of_row (op := 0x6D) (rest := [loByte a, hiByte a]) rfl rfl
theorem adcAbsX (a : Word) : Statement (.adcAbsX a) := of_row (op := 0x7D) (rest := [loByte a, hiByte a]) rfl rfl
theorem adcAbsY (a : Word) : Statement (.adcAbsY a) := of_row (op := 0x79) (rest := [loByte a, hiByte a]) rfl rfl
theorem adcIndX (z : Byte) : Statement (.adcIndX z) := of_row (op := 0x61) (rest := [z]) rfl rfl
theorem adcIndY (z : Byte) : Statement (.adcIndY z) := of_row (op := 0x71) (rest := [z]) rfl rfl
theorem sbcImm (v : Byte) : Statement (.sbcImm v) := of_row (op := 0xE9) (rest := [v]) rfl rfl
theorem sbcZp (z : Byte) : Statement (.sbcZp z) := of_row (op := 0xE5) (rest := [z]) rfl rfl
theorem sbcZpX (z : Byte) : Statement (.sbcZpX z) := of_row (op := 0xF5) (rest := [z]) rfl rfl
theorem sbcAbs (a : Word) : Statement (.sbcAbs a) := of_row (op := 0xED) (rest := [loByte a, hiByte a]) rfl rfl
theorem sbcAbsX (a : Word) : Statement (.sbcAbsX a) := of_row (op := 0xFD) (rest := [loByte a, hiByte a]) rfl rfl
theorem sbcAbsY (a : Word) : Statement (.sbcAbsY a) := of_row (op := 0xF9) (rest := [loByte a, hiByte a]) rfl rfl
theorem sbcIndX (z : Byte) : Statement (.sbcIndX z) := of_row (op := 0xE1) (rest := [z]) rfl rfl
theorem sbcIndY (z : Byte) : Statement (.sbcIndY z) := of_row (op := 0xF1) (rest := [z]) rfl rfl
theorem sbcImmEB (v : Byte) : Statement (.sbcImmEB v) := of_row (op := 0xEB) (rest := [v]) rfl rfl
theorem cmpImm (v : Byte) : Statement (.cmpImm v) := of_row (op := 0xC9) (rest := [v]) rfl rfl
theorem cmpZp (z : Byte) : Statement (.cmpZp z) := of_row (op := 0xC5) (rest := [z]) rfl rfl
theorem cmpZpX (z : Byte) : Statement (.cmpZpX z) := of_row (op := 0xD5) (rest := [z]) rfl rfl
theorem cmpAbs (a : Word) : Statement (.cmpAbs a) := of_row (op := 0xCD) (rest := [loByte a, hiByte a]) rfl rfl
theorem cmpAbsX (a : Word) : Statement (.cmpAbsX a) := of_row (op := 0xDD) (rest := [loByte a, hiByte a]) rfl rfl
theorem cmpAbsY (a : Word) : Statement (.cmpAbsY a) := of_row (op := 0xD9) (rest := [loByte a, hiByte a]) rfl rfl
theorem cmpIndX (z : Byte) : Statement (.cmpIndX z) := of_row (op := 0xC1) (rest := [z]) rfl rfl
theorem cmpIndY (z : Byte) : Statement (.cmpIndY z) := of_row (op := 0xD1) (rest := [z]) rfl rfl
theorem cpxImm (v : Byte) : Statement (.cpxImm v) := of_row (op := 0xE0) (rest := [v]) rfl rfl
theorem cpxZp (z : Byte) : Statement (.cpxZp z) := of_row (op := 0xE4) (rest := [z]) rfl rfl
theorem cpxAbs (a : Word) : Statement (.cpxAbs a) := of_row (op := 0xEC) (rest := [loByte a, hiByte a]) rfl rfl
theorem cpyImm (v : Byte) : Statement (.cpyImm v) := of_row (op := 0xC0) (rest := [v]) rfl rfl
theorem cpyZp (z : Byte) : Statement (.cpyZp z) := of_row (op := 0xC4) (rest := [z]) rfl rfl
theorem cpyAbs (a : Word) : Statement (.cpyAbs a) := of_row (op := 0xCC) (rest := [loByte a, hiByte a]) rfl rfl
theorem incZp (z : Byte) : Statement (.incZp z) := of_row (op := 0xE6) (rest := [z]) rfl rfl
theorem incZpX (z : Byte) : Statement (.incZpX z) := of_row (op := 0xF6) (rest := [z]) rfl rfl
theorem incAbs (a : Word) : Statement (.incAbs a) := of_row (op := 0xEE) (rest := [loByte a, hiByte a]) rfl rfl
theorem incAbsX (a : Word) : Statement (.incAbsX a) := of_row (op := 0xFE) (rest := [loByte a, hiByte a]) rfl rfl
theorem decZp (z : Byte) : Statement (.decZp z) := of_row (op := 0xC6) (rest := [z]) rfl rfl
theorem decZpX (z : Byte) : Statement (.decZpX z) := of_row (op := 0xD6) (rest := [z]) rfl rfl
theorem decAbs (a : Word) : Statement (.decAbs a) := of_row (op := 0xCE) (rest := [loByte a, hiByte a]) rfl rfl
theorem decAbsX (a : Word) : Statement (.decAbsX a) := of_row (op := 0xDE) (rest := [loByte a, hiByte a]) rfl rfl
theorem inx : Statement (.inx) := of_row (op := 0xE8) (rest := []) rfl rfl
theorem iny : Statement (.iny) := of_row (op := 0xC8) (rest := []) rfl rfl
theorem dex : Statement (.dex) := of_row (op := 0xCA) (rest := []) rfl rfl
theorem dey : Statement (.dey) := of_row (op := 0x88) (rest := []) rfl rfl
theorem andImm (v : Byte) : Statement (.andImm v) := of_row (op := 0x29) (rest := [v]) rfl rfl
theorem andZp (z : Byte) : Statement (.andZp z) := of_row (op := 0x25) (rest := [z]) rfl rfl
theorem andZpX (z : Byte) : Statement (.andZpX z) := of_row (op := 0x35) (rest := [z]) rfl rfl
theorem andAbs (a : Word) : Statement (.andAbs a) := of_row (op := 0x2D) (rest := [loByte a, hiByte a]) rfl rfl
theorem andAbsX (a : Word) : Statement (.andAbsX a) := of_row (op := 0x3D) (rest := [loByte a, hiByte a]) rfl rfl
theorem andAbsY (a : Word) : Statement (.andAbsY a) := of_row (op := 0x39) (rest := [loByte a, hiByte a]) rfl rfl
theorem andIndX (z : Byte) : Statement (.andIndX z) := of_row (op := 0x21) (rest := [z]) rfl rfl
theorem andIndY (z : Byte) : Statement (.andIndY z) := of_row (op := 0x31) (rest := [z]) rfl rfl
theorem oraImm (v : Byte) : Statement (.oraImm v) := of_row (op := 0x09) (rest := [v]) rfl rfl
theorem oraZp (z : Byte) : Statement (.oraZp z) := of_row (op := 0x05) (rest := [z]) rfl rfl
theorem oraZpX (z : Byte) : Statement (.oraZpX z) := of_row (op := 0x15) (rest := [z]) rfl rfl
theorem oraAbs (a : Word) : Statement (.oraAbs a) := of_row (op := 0x0D) (rest := [loByte a, hiByte a]) rfl rfl
theorem oraAbsX (a : Word) : Statement (.oraAbsX a) := of_row (op := 0x1D) (rest := [loByte a, hiByte a]) rfl rfl
theorem oraAbsY (a : Word) : Statement (.oraAbsY a) := of_row (op := 0x19) (rest := [loByte a, hiByte a]) rfl rfl
theorem oraIndX (z : Byte) : Statement (.oraIndX z) := of_row (op := 0x01) (rest := [z]) rfl rfl
theorem oraIndY (z : Byte) : Statement (.oraIndY z) := of_row (op := 0x11) (rest := [z]) rfl rfl
theorem eorImm (v : Byte) : Statement (.eorImm v) := of_row (op := 0x49) (rest := [v]) rfl rfl
theorem eorZp (z : Byte) : Statement (.eorZp z) := of_row (op := 0x45) (rest := [z]) rfl rfl
theorem eorZpX (z : Byte) : Statement (.eorZpX z) := of_row (op := 0x55) (rest := [z]) rfl rfl
theorem eorAbs (a : Word) : Statement (.eorAbs a) := of_row (op := 0x4D) (rest := [loByte a, hiByte a]) rfl rfl
theorem eorAbsX (a : Word) : Statement (.eorAbsX a) := of_row (op := 0x5D) (rest := [loByte a, hiByte a]) rfl rfl
theorem eorAbsY (a : Word) : Statement (.eorAbsY a) := of_row (op := 0x59) (rest := [loByte a, hiByte a]) rfl rfl
theorem eorIndX (z : Byte) : Statement (.eorIndX z) := of_row (op := 0x41) (rest := [z]) rfl rfl
theorem eorIndY (z : Byte) : Statement (.eorIndY z) := of_row (op := 0x51) (rest := [z]) rfl rfl
theorem bitZp (z : Byte) : Statement (.bitZp z) := of_row (op := 0x24) (rest := [z]) rfl rfl
theorem bitAbs (a : Word) : Statement (.bitAbs a) := of_row (op := 0x2C) (rest := [loByte a, hiByte a]) rfl rfl
theorem aslZp (z : Byte) : Statement (.aslZp z) := of_row (op := 0x06) (rest := [z]) rfl rfl
theorem aslZpX (z : Byte) : Statement (.aslZpX z) := of_row (op := 0x16) (rest := [z]) rfl rfl
theorem aslAbs (a : Word) : Statement (.aslAbs a) := of_row (op := 0x0E) (rest := [loByte a, hiByte a]) rfl rfl
theorem aslAbsX (a : Word) : Statement (.aslAbsX a) := of_row (op := 0x1E) (rest := [loByte a, hiByte a]) rfl rfl
theorem aslAcc : Statement (.aslAcc) := of_row (op := 0x0A) (rest := []) rfl rfl
theorem lsrZp (z : Byte) : Statement (.lsrZp z) := of_row (op := 0x46) (rest := [z]) rfl rfl
theorem lsrZpX (z : Byte) : Statement (.lsrZpX z) := of_row (op := 0x56) (rest := [z]) rfl rfl
theorem lsrAbs (a : Word) : Statement (.lsrAbs a) := of_row (op := 0x4E) (rest := [loByte a, hiByte a]) rfl rfl
theorem lsrAbsX (a : Word) : Statement (.lsrAbsX a) := of_row (op := 0x5E) (rest := [loByte a, hiByte a]) rfl rfl
theorem lsrAcc : Statement (.lsrAcc) := of_row (op := 0x4A) (rest := []) rfl rfl
theorem rolZp (z : Byte) : Statement (.rolZp z) := of_row (op := 0x26) (rest := [z]) rfl rfl
theorem rolZpX (z : Byte) : Statement (.rolZpX z) := of_row (op := 0x36) (rest := [z]) rfl rfl
theorem rolAbs (a : Word) : Statement (.rolAbs a) := of_row (op := 0x2E) (rest := [loByte a, hiByte a]) rfl rfl
theorem rolAbsX (a : Word) : Statement (.rolAbsX a) := of_row (op := 0x3E) (rest := [loByte a, hiByte a]) rfl rfl
theorem rolAcc : Statement (.rolAcc) := of_row (op := 0x2A) (rest := []) rfl rfl
theorem rorZp (z : Byte) : Statement (.rorZp z) := of_row (op := 0x66) (rest := [z]) rfl rfl
theorem rorZpX (z : Byte) : Statement (.rorZpX z) := of_row (op := 0x76) (rest := [z]) rfl rfl
theorem rorAbs (a : Word) : Statement (.rorAbs a) := of_row (op := 0x6E) (rest := [loByte a, hiByte a]) rfl rfl
theorem rorAbsX (a : Word) : Statement (.rorAbsX a) := of_row (op := 0x7E) (rest := [loByte a, hiByte a]) rfl rfl
theorem rorAcc : Statement (.rorAcc) := of_row (op := 0x6A) (rest := []) rfl rfl
theorem jmpAbs (a : Word) : Statement (.jmpAbs a) := of_row (op := 0x4C) (rest := [loByte a, hiByte a]) rfl rfl
theorem jmpInd (a : Word) : Statement (.jmpInd a) := of_row (op := 0x6C) (rest := [loByte a, hiByte a]) rfl rfl
theorem jsr (a : Word) : Statement (.jsr a) := of_row (op := 0x20) (rest := [loByte a, hiByte a]) rfl rfl
theorem rts : Statement (.rts) := of_row (op := 0x60) (rest := []) rfl rfl
theorem rti : Statement (.rti) := of_row (op := 0x40) (rest := []) rfl rfl
theorem brk : Statement (.brk) := of_row (op := 0x00) (rest := []) rfl rfl
theorem bpl (r : Byte) : Statement (.bpl r) := of_row (op := 0x10) (rest := [r]) rfl rfl
theorem bmi (r : Byte) : Statement (.bmi r) := of_row (op := 0x30) (rest := [r]) rfl rfl
theorem bvc (r : Byte) : Statement (.bvc r) := of_row (op := 0x50) (rest := [r]) rfl rfl
theorem bvs (r : Byte) : Statement (.bvs r) := of_row (op := 0x70) (rest := [r]) rfl rfl
theorem bcc (r : Byte) : Statement (.bcc r) := of_row (op := 0x90) (rest := [r]) rfl rfl
theorem bcs (r : Byte) : Statement (.bcs r) := of_row (op := 0xB0) (rest := [r]) rfl rfl
theorem bne (r : Byte) : Statement (.bne r) := of_row (op := 0xD0) (rest := [r]) rfl rfl
theorem beq (r : Byte) : Statement (.beq r) := of_row (op := 0xF0) (rest := [r]) rfl rfl
theorem nop : Statement (.nop) := of_row (op := 0xEA) (rest := []) rfl rfl
theorem clc : Statement (.clc) := of_row (op := 0x18) (rest := []) rfl rfl
theorem sec : Statement (.sec) := of_row (op := 0x38) (rest := []) rfl rfl
theorem cli : Statement (.cli) := of_row (op := 0x58) (rest := []) rfl rfl
theorem sei : Statement (.sei) := of_row (op := 0x78) (rest := []) rfl rfl
theorem cld : Statement (.cld) := of_row (op := 0xD8) (rest := []) rfl rfl
theorem sed : Statement (.sed) := of_row (op := 0xF8) (rest := []) rfl rfl
theorem clv : Statement (.clv) := of_row (op := 0xB8) (rest := []) rfl rfl

/-- A byte of the list of R55 has no row. -/
theorem decodeRow_isNone_of_invalid : ∀ op : Byte, isInvalidOpcode op = true → (decodeRow op).isNone = true := by
  decide

theorem invalid (op : Byte) : Statement (.invalid op) := by
  intro h
  have := decodeRow_isNone_of_invalid op h
  simp [encode, rowLength, Option.isNone_iff_eq_none.mp this]

end EncodedLength

end Sys2Proof.Laws
end

