-- ==== Sys2Proof/Laws/Step.lean ====
section
/-! SUPPORT. What a fetch and a step can do, said once. -/

namespace Sys2Proof.Machine

/-- Everything a byte fetch can do: PC moves on, and the input queue loses its first byte at the input port. -/
theorem State.fetchByte_snd (s : State) :
    s.fetchByte.2 = { s with pc := s.pc + 1, inq := inqAfterRead s.inq s.pc } := by
  simp [State.fetchByte, State.memRead_eq, State.setPc]

theorem State.fetchByte_fst (s : State) : s.fetchByte.1 = s.readValue s.pc := by
  simp [State.fetchByte, State.memRead_eq]

/-- Everything a fetch can do: only PC and the input queue change, and the queue loses a prefix. -/
theorem State.fetch_snd (s : State) : ∃ (pc : Word) (q : List Byte), q <:+ s.inq ∧ s.fetch.2 = { s with pc := pc, inq := q } := by
  have h1 := inqAfterRead_suffix s.inq s.pc
  unfold State.fetch
  dsimp only
  rcases decodeRow s.fetchByte.1 with _ | (i | f | f)
  · exact ⟨_, _, h1, s.fetchByte_snd⟩
  · exact ⟨_, _, h1, s.fetchByte_snd⟩
  · refine ⟨s.pc + 1 + 1, inqAfterRead (inqAfterRead s.inq s.pc) (s.pc + 1), (inqAfterRead_suffix _ _).trans h1, ?_⟩
    simp [State.fetchByte_snd]
  · refine ⟨s.pc + 1 + 1 + 1, inqAfterRead (inqAfterRead (inqAfterRead s.inq s.pc) (s.pc + 1)) (s.pc + 1 + 1),
      (inqAfterRead_suffix _ _).trans ((inqAfterRead_suffix _ _).trans h1), ?_⟩
    simp [State.fetchByte_snd]

/-- What the run loop's step is: stopped, waiting, an interrupt entry, or the fetched instruction. -/
theorem step_cases (s : State) :
    (s.halted = true ∧ step s = .fault .halted) ∨
    (s.halted = false ∧ s.paused = true ∧ step s = .next s) ∨
    (s.halted = false ∧ s.paused = false ∧ ∃ t, s.interruptSample = some t ∧ step s = .next (t.account 7)) ∨
    (s.halted = false ∧ s.paused = false ∧ s.interruptSample = none ∧ step s = exec s.fetch.1 s.fetch.2) := by
  unfold step stepOnce
  cases s.halted <;> cases s.paused <;> cases s.interruptSample <;> simp [finish]

/-- What the interrupt sampling is (R139). -/
theorem State.interruptSample_cases (s : State) :
    (s.nmiPending = true ∧ s.interruptSample = some (({ s with nmiPending := false } : State).intEntry vectorNmi 0x20)) ∨
    (s.nmiPending = false ∧ s.irqPending = true ∧ s.flags.i = false ∧
      s.interruptSample = some (({ s with irqPending := false } : State).intEntry vectorIrq 0x20)) ∨
    (s.nmiPending = false ∧ (s.irqPending = false ∨ s.flags.i = true) ∧ s.interruptSample = none) := by
  unfold State.interruptSample
  cases s.nmiPending <;> cases s.irqPending <;> cases s.flags.i <;> simp

end Sys2Proof.Machine
end

