-- ==== Sys2Proof/Tests/Slice0.lean ====
section
/-! SUPPORT. Tests on fixed values, whose expected results are the spec's (30_encoding.md, 95_test_vectors.md), and for every statement with hypotheses a witness that meets them. -/

namespace Sys2Proof.Tests

open Sys2Proof Sys2Proof.Machine Sys2Proof.Spec

/-- The bytes decode to the instruction and nothing is left over. -/
def decodesTo (bytes : List Byte) (i : Instr) : Bool :=
  match decode bytes with
  | .ok (j, []) => i == j
  | _ => false

/-- Every pair of the list decodes so. -/
def decodesAll (l : List (List Byte × Instr)) : Bool := l.all fun p => decodesTo p.1 p.2

/-- The reset state with the registers `r` and the bytes `m`. -/
def start (r : Registers) (m : List (Nat × Byte)) : State :=
  { State.reset with
    a := r.a, x := r.x, y := r.y, sp := r.sp, pc := r.pc, flags := Flags.ofByte r.p,
    mem := m.foldl (fun m c => m.write c.1 c.2) [] }

/-- The state after one step with the bytes `code` at PC. -/
def stepOn (s : State) (code : List Byte) : State :=
  match step (s.placeBytes s.pc code) with
  | .next t => t
  | _ => s

/-- The state has the registers, the report and the memory bytes. -/
def ends (t : State) (r : Registers) (rep : Report) (bytes : List (Nat × Byte)) : Bool :=
  t.registers == r && t.report == rep && bytes.all fun c => t.mem.read c.1 == c.2

/-! ### Well-formed terms and decoding -/

/-- A byte that has a row is no invalid opcode (R53, R55). -/
theorem test_wellFormed_refuses_valid_byte : (Instr.invalid 0xA9).wellFormed = false := by decide

/-- The alias 0xEB has a row (R54). -/
theorem test_wellFormed_refuses_alias_byte : (Instr.invalid 0xEB).wellFormed = false := by decide

theorem test_wellFormed_accepts : (Instr.invalid 0x89).wellFormed = true ∧ (Instr.jmpInd 0x30FF).wellFormed = true := by decide

/-- The encodings of the rules of these instructions, written out; operand bytes low byte first (R28, R51). -/
theorem test_decode_loads :
    decodesAll
      [ ([0xA9, 0x91], .ldaImm 0x91), ([0xA5, 0x91], .ldaZp 0x91), ([0xB5, 0x91], .ldaZpX 0x91),
        ([0xAD, 0x34, 0xF2], .ldaAbs 0xF234), ([0xBD, 0x34, 0xF2], .ldaAbsX 0xF234), ([0xB9, 0x34, 0xF2], .ldaAbsY 0xF234),
        ([0xA1, 0x91], .ldaIndX 0x91), ([0xB1, 0x91], .ldaIndY 0x91), ([0xA2, 0x91], .ldxImm 0x91),
        ([0xA6, 0x91], .ldxZp 0x91), ([0xB6, 0x91], .ldxZpY 0x91), ([0xAE, 0x34, 0xF2], .ldxAbs 0xF234),
        ([0xBE, 0x34, 0xF2], .ldxAbsY 0xF234), ([0xA0, 0x91], .ldyImm 0x91), ([0xA4, 0x91], .ldyZp 0x91),
        ([0xB4, 0x91], .ldyZpX 0x91), ([0xAC, 0x34, 0xF2], .ldyAbs 0xF234), ([0xBC, 0x34, 0xF2], .ldyAbsX 0xF234) ] = true := by decide

/-- The encodings of the rules of these instructions, written out; operand bytes low byte first (R28, R51). -/
theorem test_decode_stores :
    decodesAll
      [ ([0x85, 0x91], .staZp 0x91), ([0x95, 0x91], .staZpX 0x91), ([0x8D, 0x34, 0xF2], .staAbs 0xF234),
        ([0x9D, 0x34, 0xF2], .staAbsX 0xF234), ([0x99, 0x34, 0xF2], .staAbsY 0xF234), ([0x81, 0x91], .staIndX 0x91),
        ([0x91, 0x91], .staIndY 0x91), ([0x86, 0x91], .stxZp 0x91), ([0x96, 0x91], .stxZpY 0x91),
        ([0x8E, 0x34, 0xF2], .stxAbs 0xF234), ([0x84, 0x91], .styZp 0x91), ([0x94, 0x91], .styZpX 0x91),
        ([0x8C, 0x34, 0xF2], .styAbs 0xF234) ] = true := by decide

/-- The encodings of the rules of these instructions, written out; operand bytes low byte first (R28, R51). -/
theorem test_decode_transfers_and_stack :
    decodesAll
      [ ([0xAA], .tax), ([0xA8], .tay), ([0x8A], .txa),
        ([0x98], .tya), ([0xBA], .tsx), ([0x9A], .txs),
        ([0x48], .pha), ([0x08], .php), ([0x68], .pla),
        ([0x28], .plp) ] = true := by decide

/-- The encodings of the rules of these instructions, written out; operand bytes low byte first (R28, R51). -/
theorem test_decode_add_and_subtract :
    decodesAll
      [ ([0x69, 0x91], .adcImm 0x91), ([0x65, 0x91], .adcZp 0x91), ([0x75, 0x91], .adcZpX 0x91),
        ([0x6D, 0x34, 0xF2], .adcAbs 0xF234), ([0x7D, 0x34, 0xF2], .adcAbsX 0xF234), ([0x79, 0x34, 0xF2], .adcAbsY 0xF234),
        ([0x61, 0x91], .adcIndX 0x91), ([0x71, 0x91], .adcIndY 0x91), ([0xE9, 0x91], .sbcImm 0x91),
        ([0xE5, 0x91], .sbcZp 0x91), ([0xF5, 0x91], .sbcZpX 0x91), ([0xED, 0x34, 0xF2], .sbcAbs 0xF234),
        ([0xFD, 0x34, 0xF2], .sbcAbsX 0xF234), ([0xF9, 0x34, 0xF2], .sbcAbsY 0xF234), ([0xE1, 0x91], .sbcIndX 0x91),
        ([0xF1, 0x91], .sbcIndY 0x91), ([0xEB, 0x91], .sbcImmEB 0x91) ] = true := by decide

/-- The encodings of the rules of these instructions, written out; operand bytes low byte first (R28, R51). -/
theorem test_decode_compare_and_count :
    decodesAll
      [ ([0xC9, 0x91], .cmpImm 0x91), ([0xC5, 0x91], .cmpZp 0x91), ([0xD5, 0x91], .cmpZpX 0x91),
        ([0xCD, 0x34, 0xF2], .cmpAbs 0xF234), ([0xDD, 0x34, 0xF2], .cmpAbsX 0xF234), ([0xD9, 0x34, 0xF2], .cmpAbsY 0xF234),
        ([0xC1, 0x91], .cmpIndX 0x91), ([0xD1, 0x91], .cmpIndY 0x91), ([0xE0, 0x91], .cpxImm 0x91),
        ([0xE4, 0x91], .cpxZp 0x91), ([0xEC, 0x34, 0xF2], .cpxAbs 0xF234), ([0xC0, 0x91], .cpyImm 0x91),
        ([0xC4, 0x91], .cpyZp 0x91), ([0xCC, 0x34, 0xF2], .cpyAbs 0xF234), ([0xE6, 0x91], .incZp 0x91),
        ([0xF6, 0x91], .incZpX 0x91), ([0xEE, 0x34, 0xF2], .incAbs 0xF234), ([0xFE, 0x34, 0xF2], .incAbsX 0xF234),
        ([0xC6, 0x91], .decZp 0x91), ([0xD6, 0x91], .decZpX 0x91), ([0xCE, 0x34, 0xF2], .decAbs 0xF234),
        ([0xDE, 0x34, 0xF2], .decAbsX 0xF234), ([0xE8], .inx), ([0xC8], .iny),
        ([0xCA], .dex), ([0x88], .dey) ] = true := by decide

/-- The encodings of the rules of these instructions, written out; operand bytes low byte first (R28, R51). -/
theorem test_decode_logic :
    decodesAll
      [ ([0x29, 0x91], .andImm 0x91), ([0x25, 0x91], .andZp 0x91), ([0x35, 0x91], .andZpX 0x91),
        ([0x2D, 0x34, 0xF2], .andAbs 0xF234), ([0x3D, 0x34, 0xF2], .andAbsX 0xF234), ([0x39, 0x34, 0xF2], .andAbsY 0xF234),
        ([0x21, 0x91], .andIndX 0x91), ([0x31, 0x91], .andIndY 0x91), ([0x09, 0x91], .oraImm 0x91),
        ([0x05, 0x91], .oraZp 0x91), ([0x15, 0x91], .oraZpX 0x91), ([0x0D, 0x34, 0xF2], .oraAbs 0xF234),
        ([0x1D, 0x34, 0xF2], .oraAbsX 0xF234), ([0x19, 0x34, 0xF2], .oraAbsY 0xF234), ([0x01, 0x91], .oraIndX 0x91),
        ([0x11, 0x91], .oraIndY 0x91), ([0x49, 0x91], .eorImm 0x91), ([0x45, 0x91], .eorZp 0x91),
        ([0x55, 0x91], .eorZpX 0x91), ([0x4D, 0x34, 0xF2], .eorAbs 0xF234), ([0x5D, 0x34, 0xF2], .eorAbsX 0xF234),
        ([0x59, 0x34, 0xF2], .eorAbsY 0xF234), ([0x41, 0x91], .eorIndX 0x91), ([0x51, 0x91], .eorIndY 0x91),
        ([0x24, 0x91], .bitZp 0x91), ([0x2C, 0x34, 0xF2], .bitAbs 0xF234) ] = true := by decide

/-- The encodings of the rules of these instructions, written out; operand bytes low byte first (R28, R51). -/
theorem test_decode_shifts :
    decodesAll
      [ ([0x06, 0x91], .aslZp 0x91), ([0x16, 0x91], .aslZpX 0x91), ([0x0E, 0x34, 0xF2], .aslAbs 0xF234),
        ([0x1E, 0x34, 0xF2], .aslAbsX 0xF234), ([0x0A], .aslAcc), ([0x46, 0x91], .lsrZp 0x91),
        ([0x56, 0x91], .lsrZpX 0x91), ([0x4E, 0x34, 0xF2], .lsrAbs 0xF234), ([0x5E, 0x34, 0xF2], .lsrAbsX 0xF234),
        ([0x4A], .lsrAcc), ([0x26, 0x91], .rolZp 0x91), ([0x36, 0x91], .rolZpX 0x91),
        ([0x2E, 0x34, 0xF2], .rolAbs 0xF234), ([0x3E, 0x34, 0xF2], .rolAbsX 0xF234), ([0x2A], .rolAcc),
        ([0x66, 0x91], .rorZp 0x91), ([0x76, 0x91], .rorZpX 0x91), ([0x6E, 0x34, 0xF2], .rorAbs 0xF234),
        ([0x7E, 0x34, 0xF2], .rorAbsX 0xF234), ([0x6A], .rorAcc) ] = true := by decide

/-- The encodings of the rules of these instructions, written out; operand bytes low byte first (R28, R51). -/
theorem test_decode_control :
    decodesAll
      [ ([0x4C, 0x34, 0xF2], .jmpAbs 0xF234), ([0x6C, 0x34, 0xF2], .jmpInd 0xF234), ([0x20, 0x34, 0xF2], .jsr 0xF234),
        ([0x60], .rts), ([0x40], .rti), ([0x00], .brk),
        ([0x10, 0x91], .bpl 0x91), ([0x30, 0x91], .bmi 0x91), ([0x50, 0x91], .bvc 0x91),
        ([0x70, 0x91], .bvs 0x91), ([0x90, 0x91], .bcc 0x91), ([0xB0, 0x91], .bcs 0x91),
        ([0xD0, 0x91], .bne 0x91), ([0xF0, 0x91], .beq 0x91), ([0xEA], .nop) ] = true := by decide

/-- The encodings of the rules of these instructions, written out; operand bytes low byte first (R28, R51). -/
theorem test_decode_flag_instructions :
    decodesAll
      [ ([0x18], .clc), ([0x38], .sec), ([0x58], .cli),
        ([0x78], .sei), ([0xD8], .cld), ([0xF8], .sed),
        ([0xB8], .clv) ] = true := by decide

/-- A byte without a row decodes alone (R55). -/
theorem test_decode_invalid : decodesAll [([0x02], .invalid 0x02), ([0x80], .invalid 0x80), ([0xFF], .invalid 0xFF)] = true := by decide

/-- Missing operand bytes are refused by name. -/
theorem test_decode_truncated :
    (match decode [0x8D, 0x00] with | .error e => e == .truncated 0x8D | .ok _ => false) = true := by decide

/-- The opcode table numbers the first byte's bits first; operand bits it does not give are 0. -/
theorem test_decodeTableWord :
    decodeTableWord 8 0xAD = some (.ldaAbs 0x0000) ∧ decodeTableWord 16 0x42A9 = some (.ldaImm 0x42) ∧
    decodeTableWord 24 0x20008D = some (.staAbs 0x2000) ∧ decodeTableWord 8 0xEB = some (.sbcImmEB 0x00) := by decide

/-- `withFetchWord` makes the next step run the instruction, whatever stood in its way. -/
theorem test_withFetchWord :
    (let s := { State.reset with halted := true, paused := true, nmiPending := true, irqPending := true, flags := Flags.ofByte 0x20 }
     match step (s.withFetchWord 16 0x42A9) with
     | .next t => t.a == 0x42 && t.pc == 0x0002 && t.report == .ok 2
     | _ => false) = true := by decide

/-- An instruction fetched at the input port is taken from the queue. -/
theorem test_withFetchWord_at_port :
    (match step (({ State.reset with pc := 0xD010, inq := [0x55] } : State).withFetchWord 16 0x42A9) with
     | .next t => t.a == 0x42 && t.pc == 0xD012 && t.inq == [0x55]
     | _ => false) = true := by decide

/-! ### Queues and the end of a run -/

/-- The operations of R148: the oldest byte first, `none` when empty, `clear()` and `is_empty()`. -/
theorem test_queue_operations :
    dequeue (enqueue (enqueue [] 0x41) 0x42) = (some 0x41, [0x42]) ∧ dequeue [] = (none, []) ∧
    queueIsEmpty [0x41] = false ∧ queueIsEmpty (queueClear [0x41]) = true := by decide

/-- A JMP to itself is a normal end, for a single step of a paused core too (R160, R153); a JMP elsewhere is none. -/
theorem test_endOfRun_self_jump :
    (let s := { start ⟨0, 0, 0, 0xFD, 0x0200, 0x24⟩ [(0x0200, 0x4C), (0x0202, 0x02), (0x0203, 0x4C), (0x0205, 0x02)] with paused := true }
     endOfRun s = some (.normal 0x0200) ∧ endOfRun { s with pc := 0x0203 } = none) := by decide

/-- `InvalidOpcode` is a faulted end at the opcode's address, for a paused core too (R160). -/
theorem test_endOfRun_invalid_opcode :
    endOfRun { start ⟨0, 0, 0, 0xFD, 0x0200, 0x24⟩ [(0x0200, 0x02)] with paused := true } = some (.faulted 0x0200 0x02) := by
  decide

/-- An image with its code at 0x0400 and the reset vector there: a NOP, then a JMP to itself at 0x0401. -/
def trapImage : Memory := [(0x0400, 0xEA), (0x0401, 0x4C), (0x0402, 0x01), (0x0403, 0x04), (0xFFFD, 0x04)]

/-- The first end of its launch (R159, R160). -/
theorem test_firstEnd : firstEnd 2 (State.launch trapImage []) = some (.normal 0x0401) := by decide

/-- The shape of R161: a pass address at which the launch comes to its normal end. -/
theorem test_dormannPasses : dormannPasses 0x0401 trapImage := ⟨by decide, by decide, 2, test_firstEnd⟩

/-! ### One step each -/

/-- Vector T2 of 95_test_vectors.md. -/
theorem test_lda_imm_negative :
    (ends (stepOn (start ⟨0x00, 0x00, 0x00, 0xFD, 0x0200, 0x24⟩ []) [0xA9, 0x80]) ⟨0x80, 0x00, 0x00, 0xFD, 0x0202, 0xA4⟩ (.ok 2) []) = true := by decide

/-- Vector T4 of 95_test_vectors.md. -/
theorem test_lda_zp_x_wraps :
    (ends (stepOn (start ⟨0x00, 0x20, 0x00, 0xFD, 0x0200, 0x24⟩ [(0x0010, 0x11), (0x0110, 0x22)]) [0xB5, 0xF0]) ⟨0x11, 0x20, 0x00, 0xFD, 0x0202, 0x24⟩ (.ok 4) []) = true := by decide

/-- Vector T6 of 95_test_vectors.md. -/
theorem test_lda_abs_y_page_cross :
    (ends (stepOn (start ⟨0x00, 0x00, 0x10, 0xFD, 0x0200, 0x24⟩ [(0x3108, 0x02)]) [0xB9, 0xF8, 0x30]) ⟨0x02, 0x00, 0x10, 0xFD, 0x0203, 0x24⟩ (.ok 5) []) = true := by decide

/-- Vector T7 of 95_test_vectors.md. -/
theorem test_lda_abs_x_wraps :
    (ends (stepOn (start ⟨0x00, 0x02, 0x00, 0xFD, 0x0200, 0x24⟩ [(0x0001, 0x33)]) [0xBD, 0xFF, 0xFF]) ⟨0x33, 0x02, 0x00, 0xFD, 0x0203, 0x24⟩ (.ok 5) []) = true := by decide

/-- Vector T8 of 95_test_vectors.md. -/
theorem test_lda_ind_x_pointer_wraps :
    (ends (stepOn (start ⟨0x00, 0x01, 0x00, 0xFD, 0x0200, 0x24⟩ [(0x00FF, 0x34), (0x0000, 0x12), (0x1234, 0x99)]) [0xA1, 0xFE]) ⟨0x99, 0x01, 0x00, 0xFD, 0x0202, 0xA4⟩ (.ok 6) []) = true := by decide

/-- Vector T9 of 95_test_vectors.md. -/
theorem test_lda_ind_y_pointer_wraps :
    (ends (stepOn (start ⟨0x00, 0x00, 0x01, 0xFD, 0x0200, 0x24⟩ [(0x00FF, 0x00), (0x0000, 0x12), (0x0100, 0x77), (0x1201, 0x44)]) [0xB1, 0xFF]) ⟨0x44, 0x00, 0x01, 0xFD, 0x0202, 0x24⟩ (.ok 5) []) = true := by decide

/-- Vector T10 of 95_test_vectors.md. -/
theorem test_lda_ind_y_page_cross :
    (ends (stepOn (start ⟨0x00, 0x00, 0x20, 0xFD, 0x0200, 0x24⟩ [(0x0040, 0xF0), (0x0041, 0x12), (0x1310, 0x05)]) [0xB1, 0x40]) ⟨0x05, 0x00, 0x20, 0xFD, 0x0202, 0x24⟩ (.ok 6) []) = true := by decide

/-- Vector T11 of 95_test_vectors.md. -/
theorem test_lda_input_port_dequeues :
    (ends (stepOn { start ⟨0x00, 0x00, 0x00, 0xFD, 0x0200, 0x24⟩ [(0xD011, 0x5A)] with inq := [0x41, 0x42] } [0xAD, 0x11, 0xD0]) ⟨0x41, 0x00, 0x00, 0xFD, 0x0203, 0x24⟩ (.ok 4) [] && (stepOn { start ⟨0x00, 0x00, 0x00, 0xFD, 0x0200, 0x24⟩ [(0xD011, 0x5A)] with inq := [0x41, 0x42] } [0xAD, 0x11, 0xD0]).inq == [0x42]) = true := by decide

/-- Vector T12 of 95_test_vectors.md. -/
theorem test_lda_input_port_empty :
    (ends (stepOn (start ⟨0x41, 0x00, 0x00, 0xFD, 0x0200, 0x24⟩ [(0xD011, 0x5A)]) [0xAD, 0x11, 0xD0]) ⟨0x00, 0x00, 0x00, 0xFD, 0x0203, 0x26⟩ (.ok 4) []) = true := by decide

/-- Vector T13 of 95_test_vectors.md. -/
theorem test_ldx_zp_y_wraps :
    (ends (stepOn (start ⟨0x00, 0x00, 0x02, 0xFD, 0x0200, 0x24⟩ [(0x0001, 0x80)]) [0xB6, 0xFF]) ⟨0x00, 0x80, 0x02, 0xFD, 0x0202, 0xA4⟩ (.ok 4) []) = true := by decide

/-- Vector T14 of 95_test_vectors.md. -/
theorem test_ldx_abs_y_page_cross :
    (ends (stepOn (start ⟨0x00, 0x00, 0x01, 0xFD, 0x0200, 0x24⟩ [(0x2100, 0x00)]) [0xBE, 0xFF, 0x20]) ⟨0x00, 0x00, 0x01, 0xFD, 0x0203, 0x26⟩ (.ok 5) []) = true := by decide

/-- Vector T15 of 95_test_vectors.md. -/
theorem test_ldy_abs_x_page_cross :
    (ends (stepOn (start ⟨0x00, 0x80, 0x00, 0xFD, 0x0200, 0x24⟩ [(0x2100, 0xC0)]) [0xBC, 0x80, 0x20]) ⟨0x00, 0x80, 0xC0, 0xFD, 0x0203, 0xA4⟩ (.ok 5) []) = true := by decide

/-- Vector T17 of 95_test_vectors.md. -/
theorem test_sta_abs_keeps_flags :
    (ends (stepOn (start ⟨0x00, 0x00, 0x00, 0xFD, 0x0200, 0xA5⟩ []) [0x8D, 0x00, 0x20]) ⟨0x00, 0x00, 0x00, 0xFD, 0x0203, 0xA5⟩ (.ok 4) [(0x2000, 0x00)]) = true := by decide

/-- Vector T18 of 95_test_vectors.md. -/
theorem test_sta_abs_x_no_penalty :
    (ends (stepOn (start ⟨0x42, 0x01, 0x00, 0xFD, 0x0200, 0x24⟩ []) [0x9D, 0xFF, 0x20]) ⟨0x42, 0x01, 0x00, 0xFD, 0x0203, 0x24⟩ (.ok 5) [(0x2100, 0x42)]) = true := by decide

/-- Vector T19 of 95_test_vectors.md. -/
theorem test_sta_ind_y :
    (ends (stepOn (start ⟨0x99, 0x00, 0x05, 0xFD, 0x0200, 0x24⟩ [(0x0010, 0x00), (0x0011, 0x30)]) [0x91, 0x10]) ⟨0x99, 0x00, 0x05, 0xFD, 0x0202, 0x24⟩ (.ok 6) [(0x3005, 0x99)]) = true := by decide

/-- Vector T20 of 95_test_vectors.md. -/
theorem test_sta_output_port_keeps_byte :
    (ends (stepOn (start ⟨0x48, 0x00, 0x00, 0xFD, 0x0200, 0x24⟩ [(0xD012, 0xEE)]) [0x8D, 0x12, 0xD0]) ⟨0x48, 0x00, 0x00, 0xFD, 0x0203, 0x24⟩ (.ok 4) [(0xD012, 0xEE)] && (stepOn (start ⟨0x48, 0x00, 0x00, 0xFD, 0x0200, 0x24⟩ [(0xD012, 0xEE)]) [0x8D, 0x12, 0xD0]).outq == [0x48]) = true := by decide

/-- Vector T21 of 95_test_vectors.md. -/
theorem test_sta_character_hook :
    (ends (stepOn (start ⟨0x41, 0x00, 0x00, 0xFD, 0x0200, 0x24⟩ []) [0x8D, 0x00, 0x60]) ⟨0x41, 0x00, 0x00, 0xFD, 0x0203, 0x24⟩ (.ok 4) [(0x6000, 0x41)] && (stepOn (start ⟨0x41, 0x00, 0x00, 0xFD, 0x0200, 0x24⟩ []) [0x8D, 0x00, 0x60]).outq == [0x41]) = true := by decide

/-- Vector T22 of 95_test_vectors.md. -/
theorem test_stx_zp_y_wraps :
    (ends (stepOn (start ⟨0x00, 0x11, 0x20, 0xFD, 0x0200, 0x24⟩ []) [0x96, 0xF0]) ⟨0x00, 0x11, 0x20, 0xFD, 0x0202, 0x24⟩ (.ok 4) [(0x0010, 0x11)]) = true := by decide

/-- Vector T23 of 95_test_vectors.md. -/
theorem test_sty_zp_x :
    (ends (stepOn (start ⟨0x00, 0x01, 0x22, 0xFD, 0x0200, 0x24⟩ []) [0x94, 0x10]) ⟨0x00, 0x01, 0x22, 0xFD, 0x0202, 0x24⟩ (.ok 4) [(0x0011, 0x22)]) = true := by decide

/-- Vector T24 of 95_test_vectors.md. -/
theorem test_tax_zero :
    (ends (stepOn (start ⟨0x00, 0x12, 0x00, 0xFD, 0x0200, 0x24⟩ []) [0xAA]) ⟨0x00, 0x00, 0x00, 0xFD, 0x0201, 0x26⟩ (.ok 2) []) = true := by decide

/-- Vector T25 of 95_test_vectors.md. -/
theorem test_tay_negative :
    (ends (stepOn (start ⟨0x90, 0x00, 0x00, 0xFD, 0x0200, 0x24⟩ []) [0xA8]) ⟨0x90, 0x00, 0x90, 0xFD, 0x0201, 0xA4⟩ (.ok 2) []) = true := by decide

/-- Vector T26 of 95_test_vectors.md. -/
theorem test_txa :
    (ends (stepOn (start ⟨0xFF, 0x01, 0x00, 0xFD, 0x0200, 0xA4⟩ []) [0x8A]) ⟨0x01, 0x01, 0x00, 0xFD, 0x0201, 0x24⟩ (.ok 2) []) = true := by decide

/-- Vector T27 of 95_test_vectors.md. -/
theorem test_tya_zero :
    (ends (stepOn (start ⟨0x01, 0x00, 0x00, 0xFD, 0x0200, 0x24⟩ []) [0x98]) ⟨0x00, 0x00, 0x00, 0xFD, 0x0201, 0x26⟩ (.ok 2) []) = true := by decide

/-- Vector T28 of 95_test_vectors.md. -/
theorem test_tsx :
    (ends (stepOn (start ⟨0x00, 0x00, 0x00, 0xFD, 0x0200, 0x24⟩ []) [0xBA]) ⟨0x00, 0xFD, 0x00, 0xFD, 0x0201, 0xA4⟩ (.ok 2) []) = true := by decide

/-- Vector T29 of 95_test_vectors.md. -/
theorem test_txs_sets_no_flag :
    (ends (stepOn (start ⟨0x00, 0x00, 0x00, 0xFD, 0x0200, 0x24⟩ []) [0x9A]) ⟨0x00, 0x00, 0x00, 0x00, 0x0201, 0x24⟩ (.ok 2) []) = true := by decide

/-- Vector T30 of 95_test_vectors.md. -/
theorem test_pha_wraps :
    (ends (stepOn (start ⟨0x5A, 0x00, 0x00, 0x00, 0x0200, 0x24⟩ []) [0x48]) ⟨0x5A, 0x00, 0x00, 0xFF, 0x0201, 0x24⟩ (.ok 3) [(0x0100, 0x5A)]) = true := by decide

/-- Vector T31 of 95_test_vectors.md. -/
theorem test_php_sets_break :
    (ends (stepOn (start ⟨0x00, 0x00, 0x00, 0xFD, 0x0200, 0x24⟩ []) [0x08]) ⟨0x00, 0x00, 0x00, 0xFC, 0x0201, 0x24⟩ (.ok 3) [(0x01FD, 0x34)]) = true := by decide

/-- Vector T33 of 95_test_vectors.md. -/
theorem test_pla_wraps :
    (ends (stepOn (start ⟨0x00, 0x00, 0x00, 0xFF, 0x0200, 0x24⟩ [(0x0100, 0x80)]) [0x68]) ⟨0x80, 0x00, 0x00, 0x00, 0x0201, 0xA4⟩ (.ok 4) []) = true := by decide

/-- Vector T34 of 95_test_vectors.md. -/
theorem test_plp_all_ones :
    (ends (stepOn (start ⟨0x00, 0x00, 0x00, 0xFC, 0x0200, 0x24⟩ [(0x01FD, 0xFF)]) [0x28]) ⟨0x00, 0x00, 0x00, 0xFD, 0x0201, 0xEF⟩ (.ok 4) []) = true := by decide

/-- Vector T38 of 95_test_vectors.md. -/
theorem test_adc_zero_carry_overflow :
    (ends (stepOn (start ⟨0x80, 0x00, 0x00, 0xFD, 0x0200, 0x24⟩ []) [0x69, 0x80]) ⟨0x00, 0x00, 0x00, 0xFD, 0x0202, 0x67⟩ (.ok 2) []) = true := by decide

/-- Vector T41 of 95_test_vectors.md. -/
theorem test_adc_decimal_wrap :
    (ends (stepOn (start ⟨0x99, 0x00, 0x00, 0xFD, 0x0200, 0x2C⟩ []) [0x69, 0x01]) ⟨0x00, 0x00, 0x00, 0xFD, 0x0202, 0xAD⟩ (.ok 2) []) = true := by decide

/-- Vector T42 of 95_test_vectors.md. -/
theorem test_adc_decimal_carry_in :
    (ends (stepOn (start ⟨0x58, 0x00, 0x00, 0xFD, 0x0200, 0x2D⟩ []) [0x69, 0x46]) ⟨0x05, 0x00, 0x00, 0xFD, 0x0202, 0xED⟩ (.ok 2) []) = true := by decide

/-- Vector T46 of 95_test_vectors.md. -/
theorem test_sbc_overflow :
    (ends (stepOn (start ⟨0x80, 0x00, 0x00, 0xFD, 0x0200, 0x25⟩ []) [0xE9, 0x01]) ⟨0x7F, 0x00, 0x00, 0xFD, 0x0202, 0x65⟩ (.ok 2) []) = true := by decide

/-- Vector T50 of 95_test_vectors.md. -/
theorem test_sbc_decimal_wrap :
    (ends (stepOn (start ⟨0x00, 0x00, 0x00, 0xFD, 0x0200, 0x2D⟩ []) [0xE9, 0x01]) ⟨0x99, 0x00, 0x00, 0xFD, 0x0202, 0xAC⟩ (.ok 2) []) = true := by decide

/-- Vector T53 of 95_test_vectors.md. -/
theorem test_sbc_alias :
    (ends (stepOn (start ⟨0x00, 0x00, 0x00, 0xFD, 0x0200, 0x25⟩ []) [0xEB, 0x01]) ⟨0xFF, 0x00, 0x00, 0xFD, 0x0202, 0xA4⟩ (.ok 2) []) = true := by decide

/-- Vector T55 of 95_test_vectors.md. -/
theorem test_cmp_less :
    (ends (stepOn (start ⟨0x40, 0x00, 0x00, 0xFD, 0x0200, 0x24⟩ []) [0xC9, 0x41]) ⟨0x40, 0x00, 0x00, 0xFD, 0x0202, 0xA4⟩ (.ok 2) []) = true := by decide

/-- Vector T58 of 95_test_vectors.md. -/
theorem test_cpx_less :
    (ends (stepOn (start ⟨0x00, 0x0F, 0x00, 0xFD, 0x0200, 0x24⟩ []) [0xE0, 0x10]) ⟨0x00, 0x0F, 0x00, 0xFD, 0x0202, 0xA4⟩ (.ok 2) []) = true := by decide

/-- Vector T59 of 95_test_vectors.md. -/
theorem test_cpy_equal :
    (ends (stepOn (start ⟨0x00, 0x00, 0x80, 0xFD, 0x0200, 0x24⟩ [(0x0010, 0x80)]) [0xC4, 0x10]) ⟨0x00, 0x00, 0x80, 0xFD, 0x0202, 0x27⟩ (.ok 3) []) = true := by decide

/-- Vector T62 of 95_test_vectors.md. -/
theorem test_inc_output_port :
    (ends (stepOn (start ⟨0x00, 0x00, 0x00, 0xFD, 0x0200, 0x24⟩ [(0xD012, 0x40)]) [0xEE, 0x12, 0xD0]) ⟨0x00, 0x00, 0x00, 0xFD, 0x0203, 0x24⟩ (.ok 6) [(0xD012, 0x40)] && (stepOn (start ⟨0x00, 0x00, 0x00, 0xFD, 0x0200, 0x24⟩ [(0xD012, 0x40)]) [0xEE, 0x12, 0xD0]).outq == [0x41]) = true := by decide

/-- Vector T63 of 95_test_vectors.md. -/
theorem test_inc_abs_x :
    (ends (stepOn (start ⟨0x00, 0x01, 0x00, 0xFD, 0x0200, 0x24⟩ [(0x2100, 0x7F)]) [0xFE, 0xFF, 0x20]) ⟨0x00, 0x01, 0x00, 0xFD, 0x0203, 0xA4⟩ (.ok 7) [(0x2100, 0x80)]) = true := by decide

/-- Vector T64 of 95_test_vectors.md. -/
theorem test_dec_wraps :
    (ends (stepOn (start ⟨0x00, 0x00, 0x00, 0xFD, 0x0200, 0x24⟩ [(0x0010, 0x00)]) [0xC6, 0x10]) ⟨0x00, 0x00, 0x00, 0xFD, 0x0202, 0xA4⟩ (.ok 5) [(0x0010, 0xFF)]) = true := by decide

/-- Vector T65 of 95_test_vectors.md. -/
theorem test_dec_to_zero :
    (ends (stepOn (start ⟨0x00, 0x00, 0x00, 0xFD, 0x0200, 0x24⟩ [(0x3000, 0x01)]) [0xCE, 0x00, 0x30]) ⟨0x00, 0x00, 0x00, 0xFD, 0x0203, 0x26⟩ (.ok 6) [(0x3000, 0x00)]) = true := by decide

/-- Vector T66 of 95_test_vectors.md. -/
theorem test_inx_wraps :
    (ends (stepOn (start ⟨0x00, 0xFF, 0x00, 0xFD, 0x0200, 0x24⟩ []) [0xE8]) ⟨0x00, 0x00, 0x00, 0xFD, 0x0201, 0x26⟩ (.ok 2) []) = true := by decide

/-- Vector T67 of 95_test_vectors.md. -/
theorem test_iny_negative :
    (ends (stepOn (start ⟨0x00, 0x00, 0x7F, 0xFD, 0x0200, 0x24⟩ []) [0xC8]) ⟨0x00, 0x00, 0x80, 0xFD, 0x0201, 0xA4⟩ (.ok 2) []) = true := by decide

/-- Vector T68 of 95_test_vectors.md. -/
theorem test_dex_zero :
    (ends (stepOn (start ⟨0x00, 0x01, 0x00, 0xFD, 0x0200, 0x24⟩ []) [0xCA]) ⟨0x00, 0x00, 0x00, 0xFD, 0x0201, 0x26⟩ (.ok 2) []) = true := by decide

/-- Vector T69 of 95_test_vectors.md. -/
theorem test_dey_wraps :
    (ends (stepOn (start ⟨0x00, 0x00, 0x00, 0xFD, 0x0200, 0x24⟩ []) [0x88]) ⟨0x00, 0x00, 0xFF, 0xFD, 0x0201, 0xA4⟩ (.ok 2) []) = true := by decide

/-- Vector T71 of 95_test_vectors.md. -/
theorem test_and_abs_x_page_cross :
    (ends (stepOn (start ⟨0xFF, 0x01, 0x00, 0xFD, 0x0200, 0x24⟩ [(0x2100, 0x81)]) [0x3D, 0xFF, 0x20]) ⟨0x81, 0x01, 0x00, 0xFD, 0x0203, 0xA4⟩ (.ok 5) []) = true := by decide

/-- Vector T72 of 95_test_vectors.md. -/
theorem test_ora :
    (ends (stepOn (start ⟨0x0F, 0x00, 0x00, 0xFD, 0x0200, 0x24⟩ []) [0x09, 0x80]) ⟨0x8F, 0x00, 0x00, 0xFD, 0x0202, 0xA4⟩ (.ok 2) []) = true := by decide

/-- Vector T73 of 95_test_vectors.md. -/
theorem test_eor :
    (ends (stepOn (start ⟨0xAA, 0x00, 0x00, 0xFD, 0x0200, 0x24⟩ []) [0x49, 0xFF]) ⟨0x55, 0x00, 0x00, 0xFD, 0x0202, 0x24⟩ (.ok 2) []) = true := by decide

/-- Vector T74 of 95_test_vectors.md. -/
theorem test_bit_sets_flags :
    (ends (stepOn (start ⟨0x01, 0x00, 0x00, 0xFD, 0x0200, 0x24⟩ [(0x0010, 0xC0)]) [0x24, 0x10]) ⟨0x01, 0x00, 0x00, 0xFD, 0x0202, 0xE6⟩ (.ok 3) []) = true := by decide

/-- Vector T75 of 95_test_vectors.md. -/
theorem test_bit_clears_flags :
    (ends (stepOn (start ⟨0x01, 0x00, 0x00, 0xFD, 0x0200, 0xE6⟩ [(0x3000, 0x01)]) [0x2C, 0x00, 0x30]) ⟨0x01, 0x00, 0x00, 0xFD, 0x0203, 0x24⟩ (.ok 4) []) = true := by decide

/-- Vector T76 of 95_test_vectors.md. -/
theorem test_asl_a :
    (ends (stepOn (start ⟨0x80, 0x00, 0x00, 0xFD, 0x0200, 0x24⟩ []) [0x0A]) ⟨0x00, 0x00, 0x00, 0xFD, 0x0201, 0x27⟩ (.ok 2) []) = true := by decide

/-- Vector T77 of 95_test_vectors.md. -/
theorem test_asl_zp :
    (ends (stepOn (start ⟨0x00, 0x00, 0x00, 0xFD, 0x0200, 0x24⟩ [(0x0010, 0x41)]) [0x06, 0x10]) ⟨0x00, 0x00, 0x00, 0xFD, 0x0202, 0xA4⟩ (.ok 5) [(0x0010, 0x82)]) = true := by decide

/-- Vector T78 of 95_test_vectors.md. -/
theorem test_lsr_a :
    (ends (stepOn (start ⟨0x01, 0x00, 0x00, 0xFD, 0x0200, 0xA4⟩ []) [0x4A]) ⟨0x00, 0x00, 0x00, 0xFD, 0x0201, 0x27⟩ (.ok 2) []) = true := by decide

/-- Vector T79 of 95_test_vectors.md. -/
theorem test_rol_a :
    (ends (stepOn (start ⟨0x40, 0x00, 0x00, 0xFD, 0x0200, 0x25⟩ []) [0x2A]) ⟨0x81, 0x00, 0x00, 0xFD, 0x0201, 0xA4⟩ (.ok 2) []) = true := by decide

/-- Vector T80 of 95_test_vectors.md. -/
theorem test_rol_zp :
    (ends (stepOn (start ⟨0x00, 0x00, 0x00, 0xFD, 0x0200, 0x24⟩ [(0x0010, 0x80)]) [0x26, 0x10]) ⟨0x00, 0x00, 0x00, 0xFD, 0x0202, 0x27⟩ (.ok 5) [(0x0010, 0x00)]) = true := by decide

/-- Vector T81 of 95_test_vectors.md. -/
theorem test_ror_a :
    (ends (stepOn (start ⟨0x01, 0x00, 0x00, 0xFD, 0x0200, 0x25⟩ []) [0x6A]) ⟨0x80, 0x00, 0x00, 0xFD, 0x0201, 0xA5⟩ (.ok 2) []) = true := by decide

/-- Vector T82 of 95_test_vectors.md. -/
theorem test_ror_abs_x :
    (ends (stepOn (start ⟨0x00, 0x05, 0x00, 0xFD, 0x0200, 0x24⟩ [(0x3005, 0x02)]) [0x7E, 0x00, 0x30]) ⟨0x00, 0x05, 0x00, 0xFD, 0x0203, 0x24⟩ (.ok 7) [(0x3005, 0x01)]) = true := by decide

/-- Vector T84 of 95_test_vectors.md. -/
theorem test_jmp_page_wrap :
    (ends (stepOn (start ⟨0x00, 0x00, 0x00, 0xFD, 0x0200, 0x24⟩ [(0x30FF, 0x34), (0x3000, 0x12), (0x3100, 0x56)]) [0x6C, 0xFF, 0x30]) ⟨0x00, 0x00, 0x00, 0xFD, 0x1234, 0x24⟩ (.ok 5) []) = true := by decide

/-- Vector T87 of 95_test_vectors.md. -/
theorem test_jsr_wraps :
    (ends (stepOn (start ⟨0x00, 0x00, 0x00, 0xFD, 0xFFFD, 0x24⟩ []) [0x20, 0x00, 0x90]) ⟨0x00, 0x00, 0x00, 0xFB, 0x9000, 0x24⟩ (.ok 6) [(0x01FD, 0xFF), (0x01FC, 0xFF)]) = true := by decide

/-- Vector T89 of 95_test_vectors.md. -/
theorem test_rts_wraps :
    (ends (stepOn (start ⟨0x00, 0x00, 0x00, 0xFB, 0x0200, 0x24⟩ [(0x01FC, 0xFF), (0x01FD, 0xFF)]) [0x60]) ⟨0x00, 0x00, 0x00, 0xFD, 0x0000, 0x24⟩ (.ok 6) []) = true := by decide

/-- Vector T90 of 95_test_vectors.md. -/
theorem test_rti :
    (ends (stepOn (start ⟨0x00, 0x00, 0x00, 0xFA, 0x0200, 0x24⟩ [(0x01FB, 0xFF), (0x01FC, 0x07), (0x01FD, 0x80)]) [0x40]) ⟨0x00, 0x00, 0x00, 0xFD, 0x8007, 0xEF⟩ (.ok 6) []) = true := by decide

/-- Vector T91 of 95_test_vectors.md. -/
theorem test_brk :
    (ends (stepOn (start ⟨0x00, 0x00, 0x00, 0xFD, 0x0200, 0x2C⟩ [(0xFFFE, 0x00), (0xFFFF, 0x90)]) [0x00, 0xEA]) ⟨0x00, 0x00, 0x00, 0xFA, 0x9000, 0x2C⟩ (.ok 7) [(0x01FD, 0x02), (0x01FC, 0x02), (0x01FB, 0x3C)]) = true := by decide

/-- Vector T94 of 95_test_vectors.md. -/
theorem test_bpl_not_taken :
    (ends (stepOn (start ⟨0x00, 0x00, 0x00, 0xFD, 0x0200, 0xA4⟩ []) [0x10, 0x10]) ⟨0x00, 0x00, 0x00, 0xFD, 0x0202, 0xA4⟩ (.ok 2) []) = true := by decide

/-- Vector T96 of 95_test_vectors.md. -/
theorem test_bmi_not_taken :
    (ends (stepOn (start ⟨0x00, 0x00, 0x00, 0xFD, 0x0200, 0x24⟩ []) [0x30, 0x10]) ⟨0x00, 0x00, 0x00, 0xFD, 0x0202, 0x24⟩ (.ok 2) []) = true := by decide

/-- Vector T98 of 95_test_vectors.md. -/
theorem test_bvc_not_taken :
    (ends (stepOn (start ⟨0x00, 0x00, 0x00, 0xFD, 0x0200, 0x64⟩ []) [0x50, 0x10]) ⟨0x00, 0x00, 0x00, 0xFD, 0x0202, 0x64⟩ (.ok 2) []) = true := by decide

/-- Vector T100 of 95_test_vectors.md. -/
theorem test_bvs_not_taken :
    (ends (stepOn (start ⟨0x00, 0x00, 0x00, 0xFD, 0x0200, 0x24⟩ []) [0x70, 0x10]) ⟨0x00, 0x00, 0x00, 0xFD, 0x0202, 0x24⟩ (.ok 2) []) = true := by decide

/-- Vector T102 of 95_test_vectors.md. -/
theorem test_bcc_not_taken :
    (ends (stepOn (start ⟨0x00, 0x00, 0x00, 0xFD, 0x0200, 0x25⟩ []) [0x90, 0x10]) ⟨0x00, 0x00, 0x00, 0xFD, 0x0202, 0x25⟩ (.ok 2) []) = true := by decide

/-- Vector T104 of 95_test_vectors.md. -/
theorem test_bcs_not_taken :
    (ends (stepOn (start ⟨0x00, 0x00, 0x00, 0xFD, 0x0200, 0x24⟩ []) [0xB0, 0x10]) ⟨0x00, 0x00, 0x00, 0xFD, 0x0202, 0x24⟩ (.ok 2) []) = true := by decide

/-- Vector T106 of 95_test_vectors.md. -/
theorem test_bne_not_taken :
    (ends (stepOn (start ⟨0x00, 0x00, 0x00, 0xFD, 0x0200, 0x26⟩ []) [0xD0, 0x10]) ⟨0x00, 0x00, 0x00, 0xFD, 0x0202, 0x26⟩ (.ok 2) []) = true := by decide

/-- Vector T108 of 95_test_vectors.md. -/
theorem test_beq_not_taken :
    (ends (stepOn (start ⟨0x00, 0x00, 0x00, 0xFD, 0x0200, 0x24⟩ []) [0xF0, 0x10]) ⟨0x00, 0x00, 0x00, 0xFD, 0x0202, 0x24⟩ (.ok 2) []) = true := by decide

/-- Vector T93 of 95_test_vectors.md. -/
theorem test_bpl_taken :
    (ends (stepOn (start ⟨0x00, 0x00, 0x00, 0xFD, 0x0200, 0x24⟩ []) [0x10, 0x10]) ⟨0x00, 0x00, 0x00, 0xFD, 0x0212, 0x24⟩ (.ok 3) []) = true := by decide

/-- Vector T95 of 95_test_vectors.md. -/
theorem test_bmi_taken :
    (ends (stepOn (start ⟨0x00, 0x00, 0x00, 0xFD, 0x0200, 0xA4⟩ []) [0x30, 0x10]) ⟨0x00, 0x00, 0x00, 0xFD, 0x0212, 0xA4⟩ (.ok 3) []) = true := by decide

/-- Vector T97 of 95_test_vectors.md. -/
theorem test_bvc_taken :
    (ends (stepOn (start ⟨0x00, 0x00, 0x00, 0xFD, 0x0200, 0x24⟩ []) [0x50, 0x10]) ⟨0x00, 0x00, 0x00, 0xFD, 0x0212, 0x24⟩ (.ok 3) []) = true := by decide

/-- Vector T99 of 95_test_vectors.md. -/
theorem test_bvs_taken :
    (ends (stepOn (start ⟨0x00, 0x00, 0x00, 0xFD, 0x0200, 0x64⟩ []) [0x70, 0x10]) ⟨0x00, 0x00, 0x00, 0xFD, 0x0212, 0x64⟩ (.ok 3) []) = true := by decide

/-- Vector T109 of 95_test_vectors.md. -/
theorem test_bne_backward_page_cross :
    (ends (stepOn (start ⟨0x00, 0x00, 0x00, 0xFD, 0x0205, 0x24⟩ []) [0xD0, 0xF0]) ⟨0x00, 0x00, 0x00, 0xFD, 0x01F7, 0x24⟩ (.ok 4) []) = true := by decide

/-- Vector T110 of 95_test_vectors.md. -/
theorem test_bcs_forward_page_cross :
    (ends (stepOn (start ⟨0x00, 0x00, 0x00, 0xFD, 0x02FB, 0x25⟩ []) [0xB0, 0x05]) ⟨0x00, 0x00, 0x00, 0xFD, 0x0302, 0x25⟩ (.ok 4) []) = true := by decide

/-- Vector T111 of 95_test_vectors.md. -/
theorem test_bcc_to_itself :
    (ends (stepOn (start ⟨0x00, 0x00, 0x00, 0xFD, 0x0200, 0x24⟩ []) [0x90, 0xFE]) ⟨0x00, 0x00, 0x00, 0xFD, 0x0200, 0x24⟩ (.ok 3) []) = true := by decide

/-- Vector T112 of 95_test_vectors.md. -/
theorem test_beq_wraps :
    (ends (stepOn (start ⟨0x00, 0x00, 0x00, 0xFD, 0xFFF0, 0x26⟩ []) [0xF0, 0x7F]) ⟨0x00, 0x00, 0x00, 0xFD, 0x0071, 0x26⟩ (.ok 4) []) = true := by decide

/-- Vector T113 of 95_test_vectors.md. -/
theorem test_nop :
    (ends (stepOn (start ⟨0x00, 0x00, 0x00, 0xFD, 0x0200, 0x24⟩ []) [0xEA]) ⟨0x00, 0x00, 0x00, 0xFD, 0x0201, 0x24⟩ (.ok 2) []) = true := by decide

/-- Vector T114 of 95_test_vectors.md. -/
theorem test_clc :
    (ends (stepOn (start ⟨0x00, 0x00, 0x00, 0xFD, 0x0200, 0x25⟩ []) [0x18]) ⟨0x00, 0x00, 0x00, 0xFD, 0x0201, 0x24⟩ (.ok 2) []) = true := by decide

/-- Vector T115 of 95_test_vectors.md. -/
theorem test_sec :
    (ends (stepOn (start ⟨0x00, 0x00, 0x00, 0xFD, 0x0200, 0x24⟩ []) [0x38]) ⟨0x00, 0x00, 0x00, 0xFD, 0x0201, 0x25⟩ (.ok 2) []) = true := by decide

/-- Vector T116 of 95_test_vectors.md. -/
theorem test_cli :
    (ends (stepOn (start ⟨0x00, 0x00, 0x00, 0xFD, 0x0200, 0x24⟩ []) [0x58]) ⟨0x00, 0x00, 0x00, 0xFD, 0x0201, 0x20⟩ (.ok 2) []) = true := by decide

/-- Vector T117 of 95_test_vectors.md. -/
theorem test_sei :
    (ends (stepOn (start ⟨0x00, 0x00, 0x00, 0xFD, 0x0200, 0x20⟩ []) [0x78]) ⟨0x00, 0x00, 0x00, 0xFD, 0x0201, 0x24⟩ (.ok 2) []) = true := by decide

/-- Vector T118 of 95_test_vectors.md. -/
theorem test_cld :
    (ends (stepOn (start ⟨0x00, 0x00, 0x00, 0xFD, 0x0200, 0x2C⟩ []) [0xD8]) ⟨0x00, 0x00, 0x00, 0xFD, 0x0201, 0x24⟩ (.ok 2) []) = true := by decide

/-- Vector T119 of 95_test_vectors.md. -/
theorem test_sed :
    (ends (stepOn (start ⟨0x00, 0x00, 0x00, 0xFD, 0x0200, 0x24⟩ []) [0xF8]) ⟨0x00, 0x00, 0x00, 0xFD, 0x0201, 0x2C⟩ (.ok 2) []) = true := by decide

/-- Vector T120 of 95_test_vectors.md. -/
theorem test_clv :
    (ends (stepOn (start ⟨0x00, 0x00, 0x00, 0xFD, 0x0200, 0x64⟩ []) [0xB8]) ⟨0x00, 0x00, 0x00, 0xFD, 0x0201, 0x24⟩ (.ok 2) []) = true := by decide

/-- Vector T122 of 95_test_vectors.md. -/
theorem test_irq_entry :
    (ends (stepOn { start ⟨0x00, 0x00, 0x00, 0xFD, 0x0200, 0xE3⟩ [(0xFFFE, 0x00), (0xFFFF, 0xA0)] with irqPending := true } [0xEA]) ⟨0x00, 0x00, 0x00, 0xFA, 0xA000, 0xE7⟩ (.ok 7) [(0x01FD, 0x02), (0x01FC, 0x00), (0x01FB, 0xE3)]) = true := by decide

/-- Vector T123 of 95_test_vectors.md. -/
theorem test_nmi_before_irq :
    (ends (stepOn { start ⟨0x00, 0x00, 0x00, 0xFD, 0x0200, 0x20⟩ [(0xFFFA, 0x00), (0xFFFB, 0xB0), (0xFFFE, 0x00), (0xFFFF, 0xA0)] with irqPending := true, nmiPending := true } [0xEA]) ⟨0x00, 0x00, 0x00, 0xFA, 0xB000, 0x24⟩ (.ok 7) [(0x01FB, 0x20)] && (stepOn { start ⟨0x00, 0x00, 0x00, 0xFD, 0x0200, 0x20⟩ [(0xFFFA, 0x00), (0xFFFB, 0xB0), (0xFFFE, 0x00), (0xFFFF, 0xA0)] with irqPending := true, nmiPending := true } [0xEA]).irqPending) = true := by decide

/-- Vector T125 of 95_test_vectors.md. -/
theorem test_entry_wraps :
    (ends (stepOn { start ⟨0x00, 0x00, 0x00, 0x01, 0x0200, 0x24⟩ [(0xFFFA, 0x00), (0xFFFB, 0xB0)] with nmiPending := true } [0xEA]) ⟨0x00, 0x00, 0x00, 0xFE, 0xB000, 0x24⟩ (.ok 7) [(0x0101, 0x02), (0x0100, 0x00), (0x01FF, 0x24)]) = true := by decide

/-- Vector T127 of 95_test_vectors.md. -/
theorem test_invalid_opcode_halts :
    (ends (stepOn (start ⟨0x00, 0x00, 0x00, 0xFD, 0xFFFF, 0x24⟩ []) [0xFF]) ⟨0x00, 0x00, 0x00, 0xFD, 0x0000, 0x24⟩ (.invalidOpcode 0xFFFF 0xFF) [] && (stepOn (start ⟨0x00, 0x00, 0x00, 0xFD, 0xFFFF, 0x24⟩ []) [0xFF]).halted) = true := by decide

/-! ### Witnesses: states and operands that meet each statement's hypotheses -/

/-- Memory with its first and its last byte listed. -/
def edges : Memory := [(0x0000, 0x01), (0xFFFF, 0x02)]

/-- DecodeOfEncode: a well-formed instruction of each length, and a byte without a row. -/
theorem witness_DecodeOfEncode :
    (Instr.invalid 0x02).wellFormed = true ∧ (Instr.brk).wellFormed = true ∧ (Instr.ldaImm 0xFF).wellFormed = true ∧
    (Instr.staAbs 0xFFFF).wellFormed = true := by decide

/-- EncodeOfDecode: byte lists that decode, with and without a rest. -/
theorem witness_EncodeOfDecode :
    decode [0xFF, 0x01] = .ok (.invalid 0xFF, [0x01]) ∧ decode [0x20, 0xFF, 0xFF] = .ok (.jsr 0xFFFF, []) := ⟨rfl, rfl⟩

/-- ReadAfterWrite: the first and the last address, the byte an unlisted address reads as, and another address. -/
theorem witness_ReadAfterWrite :
    edges.wf = true ∧ 0xFFFF < 0x10000 ∧ (edges.write 0xFFFF 0x00).read 0xFFFF = 0x00 ∧
    (0x0000 : Nat) ≠ 0xFFFF ∧ (edges.write 0xFFFF 0x00).read 0x0000 = 0x01 := by decide

/-- CanonicalMemoryIsUnique: two ways to the same contents. -/
theorem witness_CanonicalMemoryIsUnique :
    edges.wf = true ∧ ((Memory.write [] 0xFFFF 0x02).write 0x0000 0x01).wf = true ∧
    ∀ a, edges.read a = ((Memory.write [] 0xFFFF 0x02).write 0x0000 0x01).read a :=
  ⟨by decide, by decide, fun _ => rfl⟩

/-- A bus whose first entry ends where the second goes on, and whose last page has no entry. -/
def twoEntries : State :=
  { State.reset with bus := [⟨.plainRam, 0x0000, 0x00FF⟩, ⟨.monitoredRam, 0x0080, 0xFEFF⟩] }

/-- BusFirstMatch, first clause: the first entry at both its ends, the second entry at both ends of what is left to it. -/
theorem witness_BusFirstMatch_served :
    (twoEntries.bus = [] ++ ⟨.plainRam, 0x0000, 0x00FF⟩ :: [⟨.monitoredRam, 0x0080, 0xFEFF⟩] ∧
      (0x0000 : Word).toNat ≤ (0x00FF : Word).toNat) ∧
    twoEntries.bus = [⟨.plainRam, 0x0000, 0x00FF⟩] ++ ⟨.monitoredRam, 0x0080, 0xFEFF⟩ :: [] ∧
    (∀ d ∈ [(⟨.plainRam, 0x0000, 0x00FF⟩ : BusEntry)], ¬ (d.first.toNat ≤ (0x0100 : Word).toNat ∧ (0x0100 : Word).toNat ≤ d.last.toNat)) ∧
    (∀ d ∈ [(⟨.plainRam, 0x0000, 0x00FF⟩ : BusEntry)], ¬ (d.first.toNat ≤ (0xFEFF : Word).toNat ∧ (0xFEFF : Word).toNat ≤ d.last.toNat)) ∧
    (0x0080 : Word).toNat ≤ (0x0100 : Word).toNat ∧ (0xFEFF : Word).toNat ≤ (0xFEFF : Word).toNat := by decide

/-- BusFirstMatch, second clause: the first and the last address without an entry. -/
theorem witness_BusFirstMatch_unmapped :
    (∀ d ∈ twoEntries.bus, ¬ (d.first.toNat ≤ (0xFF00 : Word).toNat ∧ (0xFF00 : Word).toNat ≤ d.last.toNat)) ∧
    (∀ d ∈ twoEntries.bus, ¬ (d.first.toNat ≤ (0xFFFF : Word).toNat ∧ (0xFFFF : Word).toNat ≤ d.last.toNat)) := by decide

/-- MonitoredRamStoresThenSends: an address routed to monitored RAM at both ends of an entry that is not the default. -/
theorem witness_MonitoredRamStoresThenSends_routed :
    route twoEntries.bus 0x0100 = some .monitoredRam ∧ route twoEntries.bus 0xFEFF = some .monitoredRam := by decide

/-- MonitoredRamStoresThenSends, the messages: bytes that are not 0, and the addresses beside the hooks. -/
theorem witness_MonitoredRamStoresThenSends_hooks :
    (0x01 : Byte) ≠ 0 ∧ (0xFF : Byte) ≠ 0 ∧
    ((0x5FFF : Word) ≠ 0x6000 ∧ (0x5FFF : Word) ≠ 0x6001 ∧ (0x5FFF : Word) ≠ 0x6002) ∧
    (0x6003 : Word) ≠ 0x6000 ∧ (0x6003 : Word) ≠ 0x6001 ∧ (0x6003 : Word) ≠ 0x6002 := by decide

/-- PullAfterPush: SP at the bottom of page 1, where it wraps. -/
theorem witness_PullAfterPush :
    (start ⟨0, 0, 0, 0x00, 0, 0x24⟩ []).bus = defaultBus ∧ (start ⟨0, 0, 0, 0x00, 0, 0x24⟩ [(0x0100, 0x07)]).mem.wf = true := by decide

/-- DecimalSumOfDigits and DecimalDifferenceOfDigits: the largest and the smallest pair of digits. -/
theorem witness_DecimalDigits : isBcd 0x99 = true ∧ isBcd 0x00 = true ∧ isBcd 0x90 = true ∧ isBcd 0x09 = true := by decide

/-- InvalidOpcodeHalts: the byte at PC has no row and no interrupt is due; IRQ clear, and IRQ masked. -/
theorem witness_InvalidOpcodeHalts :
    (let s := start ⟨0, 0, 0, 0xFD, 0xFFFF, 0x20⟩ [(0xFFFF, 0xFF)]
     s.halted = false ∧ s.paused = false ∧ s.nmiPending = false ∧ (s.irqPending = false ∨ s.flags.i = true) ∧
     (s.memRead s.pc).1 = 0xFF ∧ isInvalidOpcode 0xFF = true) ∧
    (let s := { start ⟨0, 0, 0, 0xFD, 0xD011, 0x24⟩ [] with irqPending := true, inq := [0x02] }
     s.halted = false ∧ s.paused = false ∧ s.nmiPending = false ∧ (s.irqPending = false ∨ s.flags.i = true) ∧
     (s.memRead s.pc).1 = 0x02 ∧ isInvalidOpcode 0x02 = true) := by decide

/-- InterruptSampling: NMI with I set, IRQ alone with I clear, IRQ beside NMI, IRQ masked. -/
theorem witness_InterruptSampling :
    (let s := { State.reset with nmiPending := true }
     s.halted = false ∧ s.paused = false ∧ s.nmiPending = true ∧ s.flags.i = true) ∧
    (let s := { State.reset with irqPending := true, flags := Flags.ofByte 0x20 }
     s.halted = false ∧ s.paused = false ∧ s.nmiPending = false ∧ s.irqPending = true ∧ s.flags.i = false) ∧
    (let s := { State.reset with irqPending := true, nmiPending := true, flags := Flags.ofByte 0x20 }
     s.halted = false ∧ s.paused = false ∧ s.irqPending = true ∧ (s.nmiPending = true ∨ s.flags.i = true) ∧ ∃ t, step s = .next t) ∧
    (let s := { State.reset with irqPending := true }
     s.halted = false ∧ s.paused = false ∧ s.irqPending = true ∧ (s.nmiPending = true ∨ s.flags.i = true) ∧ ∃ t, step s = .next t) :=
  ⟨by decide, by decide, ⟨rfl, rfl, rfl, .inl rfl, _, rfl⟩, ⟨rfl, rfl, rfl, .inr rfl, _, rfl⟩⟩

/-- ReturnUndoesEntry: an entry whose pushes wrap in page 1, with either status. -/
theorem witness_ReturnUndoesEntry :
    (start ⟨0, 0, 0, 0x01, 0xFFFF, 0xE3⟩ edges).bus = defaultBus ∧ (start ⟨0, 0, 0, 0x01, 0xFFFF, 0xE3⟩ edges).mem.wf = true ∧
    ((0x20 : Byte) = 0x20 ∨ (0x20 : Byte) = 0x30) ∧ ((0x30 : Byte) = 0x20 ∨ (0x30 : Byte) = 0x30) := by decide

/-- StepRunsDecodedInstruction: an instruction whose operand bytes wrap to address 0. -/
theorem witness_StepRunsDecodedInstruction :
    (let s := start ⟨0, 0, 0, 0xFD, 0xFFFE, 0x24⟩ [(0xFFFE, 0x4C), (0xFFFF, 0x34), (0x0000, 0x12)]
     s.halted = false ∧ s.paused = false ∧ s.nmiPending = false ∧ (s.irqPending = false ∨ s.flags.i = true) ∧
     decode (readBytes s s.pc 3).1 = .ok (.jmpAbs 0x1234, [])) :=
  ⟨rfl, rfl, rfl, .inl rfl, rfl⟩

/-- HaltedAndPausedCore: halted, paused, and a halted core the host acts on. -/
theorem witness_HaltedAndPausedCore :
    ({ State.reset with halted := true } : State).halted = true ∧
    (({ State.reset with paused := true } : State).halted = false ∧ ({ State.reset with paused := true } : State).paused = true) ∧
    (HostAction.injectNmi ≠ .reset ∧
      ∃ t, hostAct .injectNmi { State.reset with halted := true } = .next (t, .done)) :=
  ⟨rfl, ⟨rfl, rfl⟩, by decide, _, rfl⟩

/-- LoadProgramWrites: the empty image, one byte too many, an image that ends at the last address, and an answer. -/
theorem witness_LoadProgramWrites :
    ([] : List Byte) = [] ∧
    ([0xEA, 0xEA] ≠ ([] : List Byte) ∧ 0x10000 < (0xFFFF : Word).toNat + ([0xEA, 0xEA] : List Byte).length) ∧
    ([0xEA, 0xEA] ≠ ([] : List Byte) ∧ (0xFFFE : Word).toNat + ([0xEA, 0xEA] : List Byte).length ≤ 0x10000) ∧
    ∃ t, hostAct (.loadProgram [0xEA, 0xEA] 0xFFFE) State.reset = .next (t, .done) :=
  ⟨rfl, by decide, by decide, _, rfl⟩

/-- LoadAndBoot: the empty image, one byte too many, and an image that ends at the last address. -/
theorem witness_LoadAndBoot :
    ([] : List Byte) = [] ∧
    ([0xEA, 0xEA] ≠ ([] : List Byte) ∧ 0x10000 < (0xFFFF : Word).toNat + ([0xEA, 0xEA] : List Byte).length) ∧
    ([0xEA] ≠ ([] : List Byte) ∧ (0xFFFF : Word).toNat + ([0xEA] : List Byte).length ≤ 0x10000 ∧
      State.reset.bus = defaultBus ∧ State.reset.mem.wf = true) := by decide

/-- A state with both latches set and an instruction that stores. -/
def busy : State := { start ⟨0x41, 0, 0, 0x00, 0x0200, 0x24⟩ [(0x0200, 0x48)] with irqPending := true, freqHz := 1 }

theorem busy_inv : busy.Inv :=
  ⟨by decide, by decide, by decide, by decide, by decide, by decide, by decide, 16, by decide⟩

/-- StepKeepsInvariant: a state that meets the invariant and takes a step. -/
theorem witness_StepKeepsInvariant : busy.Inv ∧ ∃ t, step busy = .next t := ⟨busy_inv, _, rfl⟩

/-- ScheduleKeepsInvariant: a schedule with a step between two host actions. -/
theorem witness_ScheduleKeepsInvariant :
    busy.Inv ∧ ([.host .injectNmi, .runLoop, .host (.pushInput 0x0D)] : List Event).length = 3 := ⟨busy_inv, rfl⟩

/-- RegisterFrame: an instruction that is no writer, for each register. -/
theorem witness_RegisterFrame :
    (∃ t, exec .pha busy = .next t) ∧ writesA .pha = false ∧ writesX .pha = false ∧ writesY .pha = false ∧
    (∃ t, exec (.aslZp 0x10) busy = .next t) ∧ writesA (.aslZp 0x10) = false ∧ writesSp (.aslZp 0x10) = false :=
  ⟨⟨_, rfl⟩, rfl, rfl, rfl, ⟨_, rfl⟩, rfl, rfl⟩

/-- FlagFrame: an instruction that is no writer, for each flag. -/
theorem witness_FlagFrame :
    (∃ t, exec .txs busy = .next t) ∧ writesC .txs = false ∧ writesZN .txs = false ∧ writesI .txs = false ∧
    writesD .txs = false ∧ writesV .txs = false :=
  ⟨⟨_, rfl⟩, rfl, rfl, rfl, rfl, rfl⟩

/-- MemoryFrame: an address beside the stored one, and an instruction that stores nothing. -/
theorem witness_MemoryFrame :
    (∃ t, exec .pha busy = .next t) ∧ (0x01FF : Word) ∉ storedTo .pha busy ∧ (0x0101 : Word) ∉ storedTo .pha busy ∧
    (∃ t, exec (.ldaImm 0x00) busy = .next t) ∧ storedTo (.ldaImm 0x00) busy = [] :=
  ⟨⟨_, rfl⟩, by decide, by decide, ⟨_, rfl⟩, rfl⟩

/-- ControlAndQueueFrame: a read of the input port, and the instruction of a byte with a row. -/
theorem witness_ControlAndQueueFrame :
    (∃ t, exec (.ldaAbs 0xD011) { busy with inq := [0x0D] } = .next t) ∧ mnemonic (.ldaAbs 0xD011) ≠ .none :=
  ⟨⟨_, rfl⟩, by decide⟩

end Sys2Proof.Tests
end

/-! PROOFS. The statements of 20_memory.md: the address bus, monitored RAM and its hooks, the CPU's read and write
paths, 16-bit reads and the stack. First the laws of routing, of the output queue and of the number forms, then each
statement from them. -/

namespace Sys2Proof.Machine

open Sys2Proof.Spec

/-! ### Routing (R36 to R38) -/

/-- The bounds of an entry are inclusive and compared as numbers (R36). -/
theorem BusEntry.contains_iff (e : BusEntry) (addr : Word) :
    e.contains addr = true ↔ e.first.toNat ≤ addr.toNat ∧ addr.toNat ≤ e.last.toNat := by
  simp [BusEntry.contains, BitVec.le_def]

/-- An entry that contains the address, behind entries that do not, serves it. -/
theorem route_of_first_match {before after : List BusEntry} {e : BusEntry} {addr : Word}
    (hbefore : ∀ d ∈ before, ¬ d.contains addr = true) (he : e.contains addr = true) :
    route (before ++ e :: after) addr = some e.device := by
  have hnone : before.find? (fun d => d.contains addr) = none := List.find?_eq_none.mpr hbefore
  simp [route, hnone, he]

/-- An address that no entry contains is routed to no device. -/
theorem route_eq_none {bus : List BusEntry} {addr : Word} (h : ∀ d ∈ bus, ¬ d.contains addr = true) :
    route bus addr = none := by
  rw [route, List.find?_eq_none.mpr h, Option.map_none]

/-- The default table routes the whole space to monitored RAM (R39). -/
theorem route_defaultBus (addr : Word) : route defaultBus addr = some .monitoredRam := by
  have hall : (⟨.monitoredRam, 0x0000, 0xFFFF⟩ : BusEntry).contains addr = true := by
    rw [BusEntry.contains_iff]
    exact ⟨Nat.zero_le _, Nat.le_of_lt_succ addr.isLt⟩
  exact route_of_first_match (before := []) (after := []) (by simp) hall

theorem State.busRead_of_monitoredRam {s : State} {addr : Word} (h : route s.bus addr = some .monitoredRam) :
    s.busRead addr = s.mem.read addr.toNat := by
  rw [State.busRead, h]

theorem State.busWrite_of_monitoredRam {s : State} {addr : Word} (v : Byte) (h : route s.bus addr = some .monitoredRam) :
    s.busWrite addr v = s.monitoredWrite addr v := by
  rw [State.busWrite, h]

theorem State.busRead_of_plainRam {s : State} {addr : Word} (h : route s.bus addr = some .plainRam) :
    s.busRead addr = s.plainRead addr := by
  rw [State.busRead, h]

theorem State.busWrite_of_plainRam {s : State} {addr : Word} (v : Byte) (h : route s.bus addr = some .plainRam) :
    s.busWrite addr v = s.plainWrite addr v := by
  rw [State.busWrite, h]

theorem State.busRead_of_unmapped {s : State} {addr : Word} (h : route s.bus addr = none) : s.busRead addr = 0xFF := by
  rw [State.busRead, h]

theorem State.busWrite_of_unmapped {s : State} {addr : Word} (v : Byte) (h : route s.bus addr = none) :
    s.busWrite addr v = s := by
  rw [State.busWrite, h]

/-- Settles O10: the entries before the first match are skipped by `find?`, and the device of the match decides. -/
theorem busFirstMatch : Obligations.BusFirstMatch := by
  intro s addr v
  simp only [← BusEntry.contains_iff]
  refine ⟨fun before after e hbus hbefore hlo hhi => ?_, fun hnone => ?_⟩
  · have hroute : route s.bus addr = some e.device :=
      hbus ▸ route_of_first_match hbefore ((e.contains_iff addr).mpr ⟨hlo, hhi⟩)
    cases hd : e.device with
    | monitoredRam =>
      rw [hd] at hroute
      exact ⟨State.busRead_of_monitoredRam hroute, State.busWrite_of_monitoredRam v hroute⟩
    | plainRam =>
      rw [hd] at hroute
      exact ⟨State.busRead_of_plainRam hroute, State.busWrite_of_plainRam v hroute⟩
  · have hroute : route s.bus addr = none := route_eq_none hnone
    exact ⟨State.busRead_of_unmapped hroute, State.busWrite_of_unmapped v hroute⟩

/-! ### The output queue (R41, D13) -/

/-- Bytes sent one by one arrive as far as the queue has room; a queue that is too long already takes none. -/
theorem enqueueAll_eq_append_take (q bs : List Byte) :
    enqueueAll q bs = q ++ bs.take (Config.qcap - q.length) := by
  induction bs generalizing q with
  | nil => simp [enqueueAll]
  | cons b bs ih =>
    have hstep : enqueueAll q (b :: bs) = enqueueAll (enqueue q b) bs := rfl
    rw [hstep, ih]
    rcases Nat.lt_or_ge q.length Config.qcap with hroom | hfull
    · obtain ⟨k, hk⟩ : ∃ k, Config.qcap - q.length = k + 1 := ⟨Config.qcap - q.length - 1, by omega⟩
      have hk' : Config.qcap - (q ++ [b]).length = k := by rw [List.length_append, List.length_singleton]; omega
      rw [(enqueue_eq q b).1 hroom, hk, hk', List.take_succ_cons, List.append_assoc, List.singleton_append]
    · rw [(enqueue_eq q b).2 hfull, Nat.sub_eq_zero_of_le hfull, List.take_zero, List.take_zero]

/-! ### The hooks' messages (R41) -/

/-- A hexadecimal digit is the entry of the table of upper-case digits (D14). -/
theorem hexDigit_eq_upperHex : ∀ n < 16, hexDigit n = upperHex.getD n 0 := by decide

theorem hex2_eq_upperHex (b : Byte) :
    hex2 b = [upperHex.getD (b.toNat / 16) 0, upperHex.getD (b.toNat % 16) 0] := by
  have hb : b.toNat < 256 := b.isLt
  rw [hex2, hexDigit_eq_upperHex _ (by omega), hexDigit_eq_upperHex _ (by omega)]

theorem hookOutput_functional_failed {b : Byte} (h : b ≠ 0) :
    hookOutput 0x6001 b = functionalTest ++ failedText ++ [0x0D, 0x0A] :=
  if_neg h

theorem hookOutput_additional_failed {b : Byte} (h : b ≠ 0) :
    hookOutput 0x6002 b = additionalTest ++ failedText ++ codeText ++ hex2 b ++ [0x0A] :=
  if_neg h

/-- Only the three hook addresses send anything. -/
theorem hookOutput_of_no_hook (b : Byte) {addr : Word} (h0 : addr ≠ 0x6000) (h1 : addr ≠ 0x6001) (h2 : addr ≠ 0x6002) :
    hookOutput addr b = [] := by
  rw [hookOutput, if_neg h0, if_neg h1, if_neg h2]

/-- Settles O11: the hook's bytes are enqueued one by one, so as many as fit arrive; each message is evaluated. -/
theorem monitoredRamStoresThenSends : Obligations.MonitoredRamStoresThenSends := by
  refine ⟨fun s addr v => ?_, fun s addr v hroute => ?_, route_defaultBus, rfl, rfl, fun b => ⟨rfl, ?_, ?_, ?_⟩⟩
  · rw [State.monitoredWrite, enqueueAll_eq_append_take, Config.qcap]
  · exact ⟨State.busRead_of_monitoredRam hroute, State.busWrite_of_monitoredRam v hroute⟩
  · exact fun hb => hookOutput_functional_failed hb
  · intro hb
    rw [hookOutput_additional_failed hb, hex2_eq_upperHex]
    rfl
  · exact fun addr h0 h1 h2 => hookOutput_of_no_hook b h0 h1 h2

/-! ### The CPU's paths (R33, R34) -/

theorem State.memRead_of_ne (s : State) {addr : Word} (h : addr ≠ serialIn) : s.memRead addr = (s.busRead addr, s) :=
  if_neg h

theorem State.memRead_serialIn_of_empty {s : State} (h : s.inq = []) : s.memRead serialIn = (0x00, s) := by
  rw [State.memRead, if_pos rfl, h, queueIsEmpty_nil, if_pos rfl]

theorem State.memRead_serialIn_of_cons {s : State} {b : Byte} {rest : List Byte} (h : s.inq = b :: rest) :
    s.memRead serialIn = (b, { s with inq := rest }) := by
  rw [State.memRead, if_pos rfl, h, queueIsEmpty_cons, dequeue_cons]
  rfl

theorem State.memWrite_of_ne (s : State) {addr : Word} (v : Byte) (h : addr ≠ serialOut) :
    s.memWrite addr v = s.busWrite addr v :=
  if_neg h

theorem State.memWrite_serialOut (s : State) (v : Byte) :
    s.memWrite serialOut v = { s with outq := enqueue s.outq v } :=
  if_pos rfl

/-- Settles O8: the input port with an empty and a non-empty queue, and every other address. -/
theorem cpuReadPath : Obligations.CpuReadPath := by
  intro s addr
  change s.memRead addr = if addr = serialIn then _ else _
  by_cases hport : addr = serialIn
  · rw [if_pos hport, hport]
    cases hq : s.inq with
    | nil => exact State.memRead_serialIn_of_empty hq
    | cons b rest => exact State.memRead_serialIn_of_cons hq
  · rw [if_neg hport, State.memRead_of_ne s hport]

/-- Settles O9: the output port with room and when full, and every other address. -/
theorem cpuWritePath : Obligations.CpuWritePath := by
  intro s addr v
  change s.memWrite addr v = if addr = serialOut then _ else _
  by_cases hport : addr = serialOut
  · rw [if_pos hport, hport, State.memWrite_serialOut]
    rcases Nat.lt_or_ge s.outq.length 1024 with hroom | hfull
    · rw [(enqueue_eq _ v).1 hroom, if_pos hroom]
    · rw [(enqueue_eq _ v).2 hfull, if_neg (Nat.not_lt.mpr hfull)]
  · rw [if_neg hport, State.memWrite_of_ne s v hport]

/-! ### Words and the stack as numbers (R30 to R32) -/

/-- Two bytes side by side are the number `hi * 0x100 + lo`. -/
theorem wordOf_eq_word (hi lo : Byte) : wordOf hi lo = word hi lo := by
  have hhi : hi.toNat < 256 := hi.isLt
  have hlo : lo.toNat < 256 := lo.isLt
  apply BitVec.eq_of_toNat_eq
  rw [wordOf, word, BitVec.toNat_append, ← Nat.shiftLeft_add_eq_or_of_lt hlo, Nat.shiftLeft_eq, BitVec.toNat_ofNat]
  omega

theorem zext16_eq_ofNat (z : Byte) : zext16 z = BitVec.ofNat 16 z.toNat := (BitVec.ofNat_toNat 16 z).symm

/-- `0x0100 | SP` is `0x100 + SP`: the page and the pointer share no bit. -/
theorem stackAddr_eq_slot (sp : Byte) : stackAddr sp = slot sp := by
  revert sp
  decide

theorem byte_succ_toNat (b : Byte) : (b + 1).toNat = (b.toNat + 1) % 256 := BitVec.toNat_add b 1

theorem byte_succ_eq_ofNat (b : Byte) : b + 1 = BitVec.ofNat 8 ((b.toNat + 1) % 256) := by
  rw [← byte_succ_toNat, BitVec.ofNat_toNat, BitVec.setWidth_eq]

theorem byte_pred_eq_ofNat (b : Byte) : b - 1 = BitVec.ofNat 8 ((b.toNat + 255) % 256) := by
  bv_omega

/-- Settles O12: the laws of the four operations, with words, slots and wraps as numbers. -/
theorem wordAndStackAccess : Obligations.WordAndStackAccess := by
  intro s addr z v
  refine ⟨?_, ?_, ?_, ?_⟩
  · rw [State.read16, wordOf_eq_word]
  · rw [State.readZP16_eq, wordOf_eq_word, zext16_eq_ofNat, zext16_eq_ofNat, byte_succ_toNat]
  · rw [State.push, stackAddr_eq_slot, byte_pred_eq_ofNat]
    rfl
  · rw [State.pull_eq, stackAddr_eq_slot, slot, byte_succ_toNat, byte_succ_eq_ofNat]
    rfl

end Sys2Proof.Machine

/-! PROOFS. The alias of 30_encoding.md section 2 (R54): how a row with one operand byte decodes, and the one meaning of
SBC immediate behind both opcode bytes. -/

namespace Sys2Proof.Machine

/-- A row with one operand byte takes the byte after the opcode and leaves the rest (R51). -/
theorem decode_of_row_one {op : Byte} {f : Byte → Instr} (h : decodeRow op = some (.one f)) (b : Byte) (rest : List Byte) :
    decode (op :: b :: rest) = .ok (f b, rest) := by
  simp [decode, h]

theorem decodeRow_EB : decodeRow 0xEB = some (.one .sbcImmEB) := rfl

/-- SBC immediate as 0xE9: the shared subtraction on its operand byte, with 2 base cycles (R54). -/
theorem exec_sbcImm (v : Byte) (s : State) : exec (.sbcImm v) s = sbc (.imm v) 2 s := rfl

/-- SBC immediate as 0xEB: the same subtraction, with the same 2 base cycles (R54). -/
theorem exec_sbcImmEB (v : Byte) (s : State) : exec (.sbcImmEB v) s = sbc (.imm v) 2 s := rfl

/-- Settles O5: the byte has a row of its own, and both rows run one subtraction with one cycle cost. -/
theorem aliasEBIsSbcImmediate : Obligations.AliasEBIsSbcImmediate := by
  intro v rest s
  constructor
  · exact decode_of_row_one decodeRow_EB v rest
  · rw [exec_sbcImmEB, exec_sbcImm]

end Sys2Proof.Machine

/-! PROOFS. Loads and stores (40_load_store.md, R73 to R78). First the statements' words for the end of a step, the page
charge and Z and N are tied to the model's; then each mnemonic has one meaning for every operand; then each row of its
table runs that meaning, and the statements follow. -/

namespace Sys2Proof.Machine

open Sys2Proof.Spec

/-! ### The end of a step, and Z and N of a result (R10, R69, R163) -/

theorem finish_eq_done (n : Nat) (s : State) : finish n s = done n s := rfl

theorem readCycles_eq_add_pageCharge (base : Nat) (crossed : Bool) :
    readCycles base crossed = base + pageCharge crossed := by
  cases crossed <;> rfl

/-- A byte is 0 when its number is, and bit 7 says that the number is at least 0x80. -/
theorem Flags.withZN_eq_zn (f : Flags) (v : Byte) : f.withZN v = zn f v := by
  have hz : (v == 0) = decide (v.toNat = 0) := by
    rw [Bool.eq_iff_iff, beq_iff_eq, decide_eq_true_iff]
    exact BitVec.toNat_inj.symm
  have hn : v.getLsbD 7 = decide (0x80 ≤ v.toNat) := BitVec.msb_eq_decide v
  rw [Flags.withZN, zn, hz, hn]

theorem State.setZN_eq (s : State) (v : Byte) : s.setZN v = { s with flags := zn s.flags v } := by
  rw [State.setZN, Flags.withZN_eq_zn]
  rfl

/-! ### The rows of a mnemonic -/

/-- The row has its opcode, and its instruction is the operation `op` on the row's operand with the row's base cycles. -/
def RunsAs {α : Type} (s : State) (op : α → Nat → State → Result) (r : Row α) : Prop :=
  r.encoded ∧ exec r.instr s = op r.operand r.base s

/-! ### Loads (R73 to R75) -/

/-- `LoadOp` leaves the flags, so Z and N of a load are set on the flags before it. -/
theorem Source.load_flags (src : Source) (s : State) : (src.load s).after.flags = s.flags := by
  obtain ⟨q, -, hafter⟩ := Source.load_after src s
  rw [hafter]

theorem lda_eq (src : Source) (base : Nat) (s : State) :
    lda src base s =
      done (base + pageCharge (src.load s).crossed)
        { (src.load s).after with a := (src.load s).value, flags := zn s.flags (src.load s).value } := by
  rw [lda, finish_eq_done, readCycles_eq_add_pageCharge, State.setZN_eq, State.setA_flags, Source.load_flags]
  rfl

theorem ldx_eq (src : Source) (base : Nat) (s : State) :
    ldx src base s =
      done (base + pageCharge (src.load s).crossed)
        { (src.load s).after with x := (src.load s).value, flags := zn s.flags (src.load s).value } := by
  rw [ldx, finish_eq_done, readCycles_eq_add_pageCharge, State.setZN_eq, State.setX_flags, Source.load_flags]
  rfl

theorem ldy_eq (src : Source) (base : Nat) (s : State) :
    ldy src base s =
      done (base + pageCharge (src.load s).crossed)
        { (src.load s).after with y := (src.load s).value, flags := zn s.flags (src.load s).value } := by
  rw [ldy, finish_eq_done, readCycles_eq_add_pageCharge, State.setZN_eq, State.setY_flags, Source.load_flags]
  rfl

theorem ldaRows_runAs_lda (s : State) (v z : Byte) (a : Word) : (ldaRows v z a).Forall (RunsAs s lda) :=
  ⟨⟨rfl, rfl⟩, ⟨rfl, rfl⟩, ⟨rfl, rfl⟩, ⟨rfl, rfl⟩, ⟨rfl, rfl⟩, ⟨rfl, rfl⟩, ⟨rfl, rfl⟩, ⟨rfl, rfl⟩⟩

theorem ldxRows_runAs_ldx (s : State) (v z : Byte) (a : Word) : (ldxRows v z a).Forall (RunsAs s ldx) :=
  ⟨⟨rfl, rfl⟩, ⟨rfl, rfl⟩, ⟨rfl, rfl⟩, ⟨rfl, rfl⟩, ⟨rfl, rfl⟩⟩

theorem ldyRows_runAs_ldy (s : State) (v z : Byte) (a : Word) : (ldyRows v z a).Forall (RunsAs s ldy) :=
  ⟨⟨rfl, rfl⟩, ⟨rfl, rfl⟩, ⟨rfl, rfl⟩, ⟨rfl, rfl⟩, ⟨rfl, rfl⟩⟩

/-- Settles O18: every row of a load runs the load of its register, whose whole effect is one equation. -/
theorem loadsSetRegisterAndZN : Obligations.LoadsSetRegisterAndZN := by
  intro s v z a
  refine ⟨?_, ?_, ?_⟩
  · exact (ldaRows_runAs_lda s v z a).imp fun r ⟨hopcode, hexec⟩ => ⟨hopcode, hexec.trans (lda_eq r.operand r.base s)⟩
  · exact (ldxRows_runAs_ldx s v z a).imp fun r ⟨hopcode, hexec⟩ => ⟨hopcode, hexec.trans (ldx_eq r.operand r.base s)⟩
  · exact (ldyRows_runAs_ldy s v z a).imp fun r ⟨hopcode, hexec⟩ => ⟨hopcode, hexec.trans (ldy_eq r.operand r.base s)⟩

/-! ### Stores (R76 to R78) -/

/-- A store is the one write at the effective address and the base cycles, whether the mode crossed a page or not. -/
theorem storeMem_eq_done (m : MemOperand) (v : Byte) (base : Nat) (s : State) :
    storeMem m v base s = done base ((m.resolve s).2.memWrite (m.resolve s).1.addr v) := by
  rw [storeMem, finish_eq_done]

/-- Rows that run the store of one byte meet the law of a store row. -/
theorem forall_stores_of_runsAs {s : State} {v : Byte} {rows : List (Row MemOperand)}
    (hrows : rows.Forall (RunsAs s fun m => storeMem m v)) : rows.Forall (stores s v) :=
  hrows.imp fun r ⟨hopcode, hexec⟩ => ⟨hopcode, hexec.trans (storeMem_eq_done r.operand v r.base s)⟩

theorem staRows_runAs_storeMem (s : State) (z : Byte) (a : Word) :
    (staRows z a).Forall (RunsAs s fun m => storeMem m s.a) :=
  ⟨⟨rfl, rfl⟩, ⟨rfl, rfl⟩, ⟨rfl, rfl⟩, ⟨rfl, rfl⟩, ⟨rfl, rfl⟩, ⟨rfl, rfl⟩, ⟨rfl, rfl⟩⟩

theorem stxRows_runAs_storeMem (s : State) (z : Byte) (a : Word) :
    (stxRows z a).Forall (RunsAs s fun m => storeMem m s.x) :=
  ⟨⟨rfl, rfl⟩, ⟨rfl, rfl⟩, ⟨rfl, rfl⟩⟩

theorem styRows_runAs_storeMem (s : State) (z : Byte) (a : Word) :
    (styRows z a).Forall (RunsAs s fun m => storeMem m s.y) :=
  ⟨⟨rfl, rfl⟩, ⟨rfl, rfl⟩, ⟨rfl, rfl⟩⟩

/-- Settles O19: every row of a store runs the store of its register, which is one write. -/
theorem storesWriteOnce : Obligations.StoresWriteOnce := by
  intro s z a
  refine ⟨?_, ?_, ?_⟩
  · exact forall_stores_of_runsAs (staRows_runAs_storeMem s z a)
  · exact forall_stores_of_runsAs (stxRows_runAs_storeMem s z a)
  · exact forall_stores_of_runsAs (styRows_runAs_storeMem s z a)

end Sys2Proof.Machine

/-! PROOFS. Transfers and stack instructions (41_transfer_stack.md, R79 to R88). A step that sets Z and N has one law; push
and pull are tied to the statements' `pushed` and `pulled`, and P rebuilt from a byte to the byte R88 names. -/

namespace Sys2Proof.Machine

open Sys2Proof.Spec

/-! ### Transfers (R79 to R84) -/

/-- A step that ends by setting Z and N from `v` changes nothing else of the state it is given. -/
theorem finish_setZN (n : Nat) (s : State) (v : Byte) :
    finish n (s.setZN v) = done n { s with flags := zn s.flags v } := by
  rw [finish_eq_done, State.setZN_eq]

/-- Settles O20: five transfers are a register write that ends by setting Z and N; TXS is the write of SP alone. -/
theorem transfersCopyRegister : Obligations.TransfersCopyRegister := by
  intro s
  refine ⟨⟨rfl, ?tax⟩, ⟨rfl, ?tay⟩, ⟨rfl, ?txa⟩, ⟨rfl, ?tya⟩, ⟨rfl, ?tsx⟩, ⟨rfl, ?txs⟩⟩
  case tax => exact finish_setZN 2 (s.setX s.a) s.a
  case tay => exact finish_setZN 2 (s.setY s.a) s.a
  case txa => exact finish_setZN 2 (s.setA s.x) s.x
  case tya => exact finish_setZN 2 (s.setA s.y) s.y
  case tsx => exact finish_setZN 2 (s.setX s.sp) s.sp
  case txs => exact finish_eq_done 2 (s.setSp s.x)

/-! ### The stack and P as a byte (R17, R32) -/

theorem State.push_eq_pushed (s : State) (v : Byte) : s.push v = pushed s v := by
  rw [State.push, stackAddr_eq_slot]
  rfl

theorem State.pull_eq_pulled (s : State) : s.pull = (pulled s, s.setSp (s.sp + 1)) := by
  rw [State.pull_eq, stackAddr_eq_slot, pulled]

/-- P taken from a byte reads back as that byte with B cleared and U set. -/
theorem Flags.toByte_ofByte (b : Byte) : (Flags.ofByte b).toByte = (b &&& 0xEF) ||| 0x20 := by
  revert b
  decide

/-! ### Stack instructions (R85 to R88) -/

theorem exec_pha (s : State) : exec .pha s = done 3 (pushed s s.a) := by
  change finish 3 (s.push s.a) = _
  rw [finish_eq_done, State.push_eq_pushed]

theorem exec_php (s : State) : exec .php s = done 3 (pushed s (s.status ||| 0x30)) := by
  change finish 3 (s.push (s.status ||| 0x30)) = _
  rw [finish_eq_done, State.push_eq_pushed]

theorem exec_pla (s : State) :
    exec .pla s = done 4 { s with a := pulled s, sp := s.sp + 1, flags := zn s.flags (pulled s) } := by
  change finish 4 ((s.pull.2.setA s.pull.1).setZN s.pull.1) = _
  rw [State.pull_eq_pulled, finish_setZN]
  rfl

theorem exec_plp (s : State) :
    exec .plp s = done 4 { s with sp := s.sp + 1, flags := Flags.ofByte (pulled s) } := by
  change finish 4 (s.pull.2.setFlags (Flags.ofByte s.pull.1)) = _
  rw [State.pull_eq_pulled, finish_eq_done]
  rfl

/-- Settles O21: each stack instruction as one push or pull; the flags of PLP are those of the pulled byte. -/
theorem stackInstructions : Obligations.StackInstructions := by
  intro s
  refine ⟨⟨rfl, exec_pha s⟩, ⟨rfl, exec_php s⟩, ⟨rfl, exec_pla s⟩, ⟨rfl, ?plp⟩⟩
  case plp => exact ⟨Flags.ofByte (pulled s), Flags.toByte_ofByte (pulled s), exec_plp s⟩

end Sys2Proof.Machine

/-! PROOFS. Compare, increment and decrement (42_arithmetic.md, R96 to R105). The flags of a compare and the effect of an
increment are put into the statements' words once; then each mnemonic has one equation, and each row runs its mnemonic. -/

namespace Sys2Proof.Machine

open Sys2Proof.Spec

/-! ### Compares (R96 to R99) -/

/-- C is no borrow, as numbers; setting it commutes with Z and N of the difference (R96). -/
theorem compareFlags_eq (f : Flags) (reg m : Byte) :
    compareFlags f reg m = { zn f (reg - m) with c := decide (m.toNat ≤ reg.toNat) } := by
  rw [compareFlags, Flags.withZN_eq_zn]
  rfl

/-- A step that ends with the flags of a compare changes nothing else of the state it is given. -/
theorem finish_compareFlags (n : Nat) (s : State) (f : Flags) (reg m : Byte) :
    finish n (s.setFlags (compareFlags f reg m)) =
      done n { s with flags := { zn f (reg - m) with c := decide (m.toNat ≤ reg.toNat) } } := by
  rw [finish_eq_done, compareFlags_eq, State.setFlags]

theorem cmp_eq (src : Source) (base : Nat) (s : State) :
    cmp src base s =
      done (base + pageCharge (src.load s).crossed)
        { (src.load s).after with
          flags := { zn s.flags (s.a - (src.load s).value) with c := decide ((src.load s).value.toNat ≤ s.a.toNat) } } := by
  rw [cmp, readCycles_eq_add_pageCharge, finish_compareFlags]

theorem cpx_eq (src : Source) (base : Nat) (s : State) :
    cpx src base s =
      done base
        { (src.load s).after with
          flags := { zn s.flags (s.x - (src.load s).value) with c := decide ((src.load s).value.toNat ≤ s.x.toNat) } } := by
  rw [cpx, finish_compareFlags]

theorem cpy_eq (src : Source) (base : Nat) (s : State) :
    cpy src base s =
      done base
        { (src.load s).after with
          flags := { zn s.flags (s.y - (src.load s).value) with c := decide ((src.load s).value.toNat ≤ s.y.toNat) } } := by
  rw [cpy, finish_compareFlags]

theorem cmpRows_runAs_cmp (s : State) (v z : Byte) (a : Word) : (cmpRows v z a).Forall (RunsAs s cmp) :=
  ⟨⟨rfl, rfl⟩, ⟨rfl, rfl⟩, ⟨rfl, rfl⟩, ⟨rfl, rfl⟩, ⟨rfl, rfl⟩, ⟨rfl, rfl⟩, ⟨rfl, rfl⟩, ⟨rfl, rfl⟩⟩

theorem cpxRows_runAs_cpx (s : State) (v z : Byte) (a : Word) : (cpxRows v z a).Forall (RunsAs s cpx) :=
  ⟨⟨rfl, rfl⟩, ⟨rfl, rfl⟩, ⟨rfl, rfl⟩⟩

theorem cpyRows_runAs_cpy (s : State) (v z : Byte) (a : Word) : (cpyRows v z a).Forall (RunsAs s cpy) :=
  ⟨⟨rfl, rfl⟩, ⟨rfl, rfl⟩, ⟨rfl, rfl⟩⟩

/-- Settles O28: every row of a compare runs the compare of its register; the page charge of CPX and CPY is 0. -/
theorem comparesSetFlags : Obligations.ComparesSetFlags := by
  intro s v z a
  refine ⟨?_, ?_, ?_⟩
  · exact (cmpRows_runAs_cmp s v z a).imp fun r ⟨hopcode, hexec⟩ => ⟨hopcode, hexec.trans (cmp_eq r.operand r.base s)⟩
  · exact (cpxRows_runAs_cpx s v z a).imp fun r ⟨hopcode, hexec⟩ => ⟨hopcode, hexec.trans (cpx_eq r.operand r.base s)⟩
  · exact (cpyRows_runAs_cpy s v z a).imp fun r ⟨hopcode, hexec⟩ => ⟨hopcode, hexec.trans (cpy_eq r.operand r.base s)⟩

/-! ### INC and DEC (R100, R101) -/

/-- A read-modify-write as the read, the write and the flags in the order of R45; D4 excludes a second write. -/
theorem modifyMem_eq_done (f : Flags → Byte → Effect) (m : MemOperand) (base : Nat) (s : State) :
    modifyMem f m base s =
      (let ea := m.resolve s
       let v := ea.2.memRead ea.1.addr
       done base { v.2.memWrite ea.1.addr (f s.flags v.1).result with flags := (f s.flags v.1).flags }) := by
  rw [modifyMem, finish_eq_done, State.setFlags]

theorem incEffect_eq (f : Flags) (v : Byte) : incEffect f v = { result := v + 1, flags := zn f (v + 1) } := by
  rw [incEffect, Flags.withZN_eq_zn]

theorem decEffect_eq (f : Flags) (v : Byte) : decEffect f v = { result := v - 1, flags := zn f (v - 1) } := by
  rw [decEffect, Flags.withZN_eq_zn]

/-- Rows that run a read-modify-write whose effect is `change` with Z and N of its result meet the law of INC and DEC. -/
theorem forall_increments_of_runsAs {s : State} {f : Flags → Byte → Effect} {change : Byte → Byte} {rows : List (Row MemOperand)}
    (heffect : ∀ fl v, f fl v = { result := change v, flags := zn fl (change v) })
    (hrows : rows.Forall (RunsAs s (modifyMem f))) : rows.Forall (increments s change) := by
  refine hrows.imp fun r ⟨hopcode, hexec⟩ => ⟨hopcode, ?_⟩
  simp only [hexec, modifyMem_eq_done, heffect]

theorem incRows_runAs_modifyMem (s : State) (z : Byte) (a : Word) : (incRows z a).Forall (RunsAs s (modifyMem incEffect)) :=
  ⟨⟨rfl, rfl⟩, ⟨rfl, rfl⟩, ⟨rfl, rfl⟩, ⟨rfl, rfl⟩⟩

theorem decRows_runAs_modifyMem (s : State) (z : Byte) (a : Word) : (decRows z a).Forall (RunsAs s (modifyMem decEffect)) :=
  ⟨⟨rfl, rfl⟩, ⟨rfl, rfl⟩, ⟨rfl, rfl⟩, ⟨rfl, rfl⟩⟩

/-- Settles O29: every row runs the read-modify-write of its mnemonic, whose flags are Z and N of the byte written. -/
theorem incDecMemory : Obligations.IncDecMemory := by
  intro s z a
  constructor
  · exact forall_increments_of_runsAs incEffect_eq (incRows_runAs_modifyMem s z a)
  · exact forall_increments_of_runsAs decEffect_eq (decRows_runAs_modifyMem s z a)

/-! ### INX, INY, DEX and DEY (R102 to R105) -/

/-- Settles O30: each is a register write that ends by setting Z and N of the byte written. -/
theorem incDecRegister : Obligations.IncDecRegister := by
  intro s
  refine ⟨⟨rfl, ?inx⟩, ⟨rfl, ?iny⟩, ⟨rfl, ?dex⟩, ⟨rfl, ?dey⟩⟩
  case inx => exact finish_setZN 2 (s.setX (s.x + 1)) (s.x + 1)
  case iny => exact finish_setZN 2 (s.setY (s.y + 1)) (s.y + 1)
  case dex => exact finish_setZN 2 (s.setX (s.x - 1)) (s.x - 1)
  case dey => exact finish_setZN 2 (s.setY (s.y - 1)) (s.y - 1)

end Sys2Proof.Machine

/-! PROOFS. Logic, bit test, shifts and rotates (43_logic_shift.md, R106 to R113). The bits and shifts of a byte are first
read as arithmetic on its number; then each mnemonic has one equation, and each row runs its mnemonic. -/

namespace Sys2Proof.Machine

open Sys2Proof.Spec

/-! ### Bits and shifts of a byte as numbers -/

theorem byte_bit7_eq (v : Byte) : v.getLsbD 7 = decide (0x80 ≤ v.toNat) := BitVec.msb_eq_decide v

theorem byte_bit6_eq (v : Byte) : v.getLsbD 6 = decide (0x40 ≤ v.toNat % 0x80) := by
  rw [BitVec.getLsbD, Nat.testBit_eq_decide_div_mod_eq, decide_eq_decide]
  omega

theorem byte_bit0_eq (v : Byte) : v.getLsbD 0 = decide (v.toNat % 2 = 1) := Nat.testBit_zero v.toNat

theorem byte_shl_toNat (v : Byte) : (v <<< 1).toNat = 2 * v.toNat % 256 := by
  rw [BitVec.toNat_shiftLeft, Nat.shiftLeft_eq, pow_one, Nat.mul_comm]

theorem byte_shr_toNat (v : Byte) : (v >>> 1).toNat = v.toNat / 2 := by
  rw [BitVec.toNat_ushiftRight, Nat.shiftRight_eq_div_pow, pow_one]

theorem carryBit_toNat (c : Bool) : ((BitVec.ofBool c).setWidth 8 : Byte).toNat = c.toNat := by
  cases c <;> rfl

theorem carryBit_shl_toNat (c : Bool) : ((BitVec.ofBool c).setWidth 8 <<< 7 : Byte).toNat = c.toNat <<< 7 := by
  cases c <;> rfl

/-- The carry fills the free bit 0 of the shifted byte, so taking it in is an addition (R112). -/
theorem byte_shl_or_carry_toNat (v : Byte) (c : Bool) :
    ((v <<< 1) ||| (BitVec.ofBool c).setWidth 8).toNat = (2 * v.toNat + c.toNat) % 256 := by
  have hc : c.toNat < 2 ^ 1 := c.toNat_lt
  have hshl : (v <<< 1).toNat = (v.toNat % 128) <<< 1 := by
    rw [byte_shl_toNat, Nat.shiftLeft_eq]
    omega
  rw [BitVec.toNat_or, carryBit_toNat, hshl, ← Nat.shiftLeft_add_eq_or_of_lt hc, Nat.shiftLeft_eq]
  omega

/-- The carry fills the free bit 7 of the shifted byte, so taking it in is an addition (R113). -/
theorem byte_shr_or_carry_toNat (v : Byte) (c : Bool) :
    ((v >>> 1) ||| ((BitVec.ofBool c).setWidth 8 <<< 7)).toNat = v.toNat / 2 + 128 * c.toNat := by
  have hv : v.toNat / 2 < 2 ^ 7 := Nat.div_lt_of_lt_mul v.isLt
  rw [BitVec.or_comm, BitVec.toNat_or, carryBit_shl_toNat, byte_shr_toNat, ← Nat.shiftLeft_add_eq_or_of_lt hv,
    Nat.shiftLeft_eq]
  omega

/-! ### Shifts and rotates (R110 to R113) -/

/-- As numbers, `f` gives `result` of the byte and the carry and shifts out the bit `out`: C is that bit, Z and N are of
the result. -/
def ShiftsAs (f : Flags → Byte → Effect) (result : Nat → Nat → Nat) (out : Nat → Bool) : Prop :=
  ∀ (fl : Flags) (v : Byte),
    f fl v =
      { result := BitVec.ofNat 8 (result v.toNat fl.c.toNat)
        flags := { zn fl (BitVec.ofNat 8 (result v.toNat fl.c.toNat)) with c := out v.toNat } }

/-- Setting C commutes with setting Z and N of the result. -/
theorem shiftEffect_eq {r : Byte} {n : Nat} (hr : r.toNat = n) (f : Flags) (out : Bool) :
    shiftEffect f r out =
      { result := BitVec.ofNat 8 n, flags := { zn f (BitVec.ofNat 8 n) with c := out } } := by
  have hbyte : BitVec.ofNat 8 n = r := by rw [← hr, BitVec.ofNat_toNat, BitVec.setWidth_eq]
  rw [hbyte, shiftEffect, Flags.withZN_eq_zn]
  rfl

theorem aslEffect_shiftsAs : ShiftsAs aslEffect (fun v _ => 2 * v % 256) fun v => decide (128 ≤ v) := by
  intro f v
  rw [aslEffect, byte_bit7_eq, shiftEffect_eq (byte_shl_toNat v)]

theorem lsrEffect_shiftsAs : ShiftsAs lsrEffect (fun v _ => v / 2) fun v => decide (v % 2 = 1) := by
  intro f v
  rw [lsrEffect, byte_bit0_eq, shiftEffect_eq (byte_shr_toNat v)]

theorem rolEffect_shiftsAs : ShiftsAs rolEffect (fun v c => (2 * v + c) % 256) fun v => decide (128 ≤ v) := by
  intro f v
  rw [rolEffect, byte_bit7_eq, shiftEffect_eq (byte_shl_or_carry_toNat v f.c)]

theorem rorEffect_shiftsAs : ShiftsAs rorEffect (fun v c => v / 2 + 128 * c) fun v => decide (v % 2 = 1) := by
  intro f v
  rw [rorEffect, byte_bit0_eq, shiftEffect_eq (byte_shr_or_carry_toNat v f.c)]

/-- A shift of A writes A and the flags, and nothing else (R57). -/
theorem modifyPlace_acc_eq {f : Flags → Byte → Effect} {result : Nat → Nat → Nat} {out : Nat → Bool}
    (hshift : ShiftsAs f result out) (base : Nat) (s : State) :
    modifyPlace f .acc base s =
      done base { s with
        a := BitVec.ofNat 8 (result s.a.toNat s.flags.c.toNat)
        flags := { zn s.flags (BitVec.ofNat 8 (result s.a.toNat s.flags.c.toNat)) with c := out s.a.toNat } } := by
  rw [modifyPlace, hshift s.flags s.a, finish_eq_done]
  rfl

/-- Rows that run the read-modify-write of a shift meet the law of a shift row on memory. -/
theorem forall_shiftsMemory_of_runsAs {s : State} {f : Flags → Byte → Effect} {result : Nat → Nat → Nat} {out : Nat → Bool}
    {rows : List (Row MemOperand)} (hshift : ShiftsAs f result out) (hrows : rows.Forall (RunsAs s (modifyMem f))) :
    rows.Forall (shiftsMemory s result out) := by
  refine hrows.imp fun r ⟨hopcode, hexec⟩ => ⟨hopcode, ?_⟩
  rw [hexec, modifyMem_eq_done]
  simp only [hshift s.flags]

theorem aslRows_runAs_modifyMem (s : State) (z : Byte) (a : Word) : (aslRows z a).Forall (RunsAs s (modifyMem aslEffect)) :=
  ⟨⟨rfl, rfl⟩, ⟨rfl, rfl⟩, ⟨rfl, rfl⟩, ⟨rfl, rfl⟩⟩

theorem lsrRows_runAs_modifyMem (s : State) (z : Byte) (a : Word) : (lsrRows z a).Forall (RunsAs s (modifyMem lsrEffect)) :=
  ⟨⟨rfl, rfl⟩, ⟨rfl, rfl⟩, ⟨rfl, rfl⟩, ⟨rfl, rfl⟩⟩

theorem rolRows_runAs_modifyMem (s : State) (z : Byte) (a : Word) : (rolRows z a).Forall (RunsAs s (modifyMem rolEffect)) :=
  ⟨⟨rfl, rfl⟩, ⟨rfl, rfl⟩, ⟨rfl, rfl⟩, ⟨rfl, rfl⟩⟩

theorem rorRows_runAs_modifyMem (s : State) (z : Byte) (a : Word) : (rorRows z a).Forall (RunsAs s (modifyMem rorEffect)) :=
  ⟨⟨rfl, rfl⟩, ⟨rfl, rfl⟩, ⟨rfl, rfl⟩, ⟨rfl, rfl⟩⟩

/-- Settles O33: each mnemonic's effect as arithmetic, applied to A and to the byte every memory row reads and writes. -/
theorem shiftsAndRotates : Obligations.ShiftsAndRotates := by
  intro s z a
  refine ⟨⟨⟨rfl, ?asl⟩, ⟨rfl, ?lsr⟩, ⟨rfl, ?rol⟩, ⟨rfl, ?ror⟩⟩, ?aslMem, ?lsrMem, ?rolMem, ?rorMem⟩
  case asl => exact modifyPlace_acc_eq aslEffect_shiftsAs 2 s
  case lsr => exact modifyPlace_acc_eq lsrEffect_shiftsAs 2 s
  case rol => exact modifyPlace_acc_eq rolEffect_shiftsAs 2 s
  case ror => exact modifyPlace_acc_eq rorEffect_shiftsAs 2 s
  case aslMem => exact forall_shiftsMemory_of_runsAs aslEffect_shiftsAs (aslRows_runAs_modifyMem s z a)
  case lsrMem => exact forall_shiftsMemory_of_runsAs lsrEffect_shiftsAs (lsrRows_runAs_modifyMem s z a)
  case rolMem => exact forall_shiftsMemory_of_runsAs rolEffect_shiftsAs (rolRows_runAs_modifyMem s z a)
  case rorMem => exact forall_shiftsMemory_of_runsAs rorEffect_shiftsAs (rorRows_runAs_modifyMem s z a)

/-! ### AND, ORA and EOR (R106 to R108) -/

/-- Z and N are of the byte written to A, on the flags before the load. -/
theorem logic_eq (op : Byte → Byte → Byte) (src : Source) (base : Nat) (s : State) :
    logic op src base s =
      done (base + pageCharge (src.load s).crossed)
        { (src.load s).after with a := op s.a (src.load s).value, flags := zn s.flags (op s.a (src.load s).value) } := by
  rw [logic, finish_setZN, readCycles_eq_add_pageCharge, State.setA_flags, Source.load_flags]
  rfl

/-- Rows that run a logical operation meet the law of a logic row. -/
theorem forall_logics_of_runsAs {s : State} {op : Byte → Byte → Byte} {rows : List (Row Source)}
    (hrows : rows.Forall (RunsAs s (logic op))) : rows.Forall (logics s op) :=
  hrows.imp fun r ⟨hopcode, hexec⟩ => ⟨hopcode, hexec.trans (logic_eq op r.operand r.base s)⟩

theorem andRows_runAs_logic (s : State) (v z : Byte) (a : Word) :
    (andRows v z a).Forall (RunsAs s (logic fun x y => x &&& y)) :=
  ⟨⟨rfl, rfl⟩, ⟨rfl, rfl⟩, ⟨rfl, rfl⟩, ⟨rfl, rfl⟩, ⟨rfl, rfl⟩, ⟨rfl, rfl⟩, ⟨rfl, rfl⟩, ⟨rfl, rfl⟩⟩

theorem oraRows_runAs_logic (s : State) (v z : Byte) (a : Word) :
    (oraRows v z a).Forall (RunsAs s (logic fun x y => x ||| y)) :=
  ⟨⟨rfl, rfl⟩, ⟨rfl, rfl⟩, ⟨rfl, rfl⟩, ⟨rfl, rfl⟩, ⟨rfl, rfl⟩, ⟨rfl, rfl⟩, ⟨rfl, rfl⟩, ⟨rfl, rfl⟩⟩

theorem eorRows_runAs_logic (s : State) (v z : Byte) (a : Word) :
    (eorRows v z a).Forall (RunsAs s (logic fun x y => x ^^^ y)) :=
  ⟨⟨rfl, rfl⟩, ⟨rfl, rfl⟩, ⟨rfl, rfl⟩, ⟨rfl, rfl⟩, ⟨rfl, rfl⟩, ⟨rfl, rfl⟩, ⟨rfl, rfl⟩, ⟨rfl, rfl⟩⟩

/-- Settles O31: every row runs the one logic operation with its mnemonic's function on bytes. -/
theorem logicResult : Obligations.LogicResult := by
  intro s v z a
  refine ⟨?_, ?_, ?_⟩
  · exact forall_logics_of_runsAs (andRows_runAs_logic s v z a)
  · exact forall_logics_of_runsAs (oraRows_runAs_logic s v z a)
  · exact forall_logics_of_runsAs (eorRows_runAs_logic s v z a)

/-! ### BIT (R109) -/

theorem bitFlags_eq (f : Flags) (a m : Byte) :
    bitFlags f a m =
      { f with z := decide (a &&& m = 0), n := decide (0x80 ≤ m.toNat), v := decide (0x40 ≤ m.toNat % 0x80) } := by
  rw [bitFlags, byte_bit7_eq, byte_bit6_eq, beq_eq_decide]

/-- BIT writes the flags alone: A is kept, and a page cross is not charged (R163). -/
theorem bitTest_eq (src : Source) (base : Nat) (s : State) :
    bitTest src base s =
      (let l := src.load s
       done base
         { l.after with flags := { s.flags with
             z := decide (s.a &&& l.value = 0)
             n := decide (0x80 ≤ l.value.toNat)
             v := decide (0x40 ≤ l.value.toNat % 0x80) } }) := by
  rw [bitTest, finish_eq_done, bitFlags_eq, State.setFlags]

theorem bitRows_runAs_bitTest (s : State) (z : Byte) (a : Word) : (bitRows z a).Forall (RunsAs s bitTest) :=
  ⟨⟨rfl, rfl⟩, ⟨rfl, rfl⟩⟩

/-- Settles O32: both rows run the one bit test, whose flags are those of the operand. -/
theorem bitTestFlags : Obligations.BitTestFlags := by
  intro s z a
  exact (bitRows_runAs_bitTest s z a).imp fun r ⟨hopcode, hexec⟩ => ⟨hopcode, hexec.trans (bitTest_eq r.operand r.base s)⟩

end Sys2Proof.Machine

/-! PROOFS. Control transfer and the flag instructions (44_control.md, R114 to R128; 45_flags.md, R129 to R135). First pages,
indirect pointers and branch targets as numbers (R62, R66), and words on the stack as the statements write them (R28, R32);
then the jumps, the subroutine and interrupt instructions from these, and one equation for all branches. -/

namespace Sys2Proof.Machine

open Sys2Proof.Spec

/-! ### Pages and targets as numbers (R62, R66) -/

/-- Masking the low byte off is a shift right and back, so it leaves the page as a number. -/
theorem word_and_FF00_toNat (w : Word) : (w &&& 0xFF00).toNat = w.toNat / 0x100 * 0x100 := by
  have hshift : w &&& (0xFF00 : Word) = (w >>> 8) <<< 8 := (BitVec.shiftLeft_ushiftRight (x := w) (n := 8)).symm
  have hw : w.toNat < 0x10000 := w.isLt
  rw [hshift, BitVec.toNat_shiftLeft, BitVec.toNat_ushiftRight, Nat.shiftLeft_eq, Nat.shiftRight_eq_div_pow]
  omega

theorem word_and_00FF_toNat (w : Word) : (w &&& 0x00FF).toNat = w.toNat % 0x100 :=
  Nat.and_two_pow_sub_one_eq_mod w.toNat 8

/-- Two addresses differ in bits [15:8] when their pages differ as numbers. -/
theorem pageDiffers_eq_decide (base target : Word) :
    pageDiffers base target = decide (base.toNat / 0x100 ≠ target.toNat / 0x100) := by
  have hpage : base &&& 0xFF00 = target &&& 0xFF00 ↔ base.toNat / 0x100 = target.toNat / 0x100 := by
    rw [← BitVec.toNat_inj, word_and_FF00_toNat, word_and_FF00_toNat]
    omega
  rw [pageDiffers, Bool.eq_iff_iff, bne_iff_ne, decide_eq_true_iff, Ne, hpage]

/-- The high byte of the pointer is read on the pointer's own page (R66): page and offset share no bit. -/
theorem indirectHigh_eq_ofNat (p : Word) :
    indirectHigh p = BitVec.ofNat 16 (p.toNat / 0x100 * 0x100 + (p.toNat + 1) % 0x100) := by
  have hp : p.toNat < 0x10000 := p.isLt
  have hsucc : (p + 1).toNat % 0x100 = (p.toNat + 1) % 0x100 := by
    rw [BitVec.toNat_add]
    exact Nat.mod_mod_of_dvd _ (by decide)
  have hpage : p.toNat / 0x100 * 0x100 = (p.toNat / 0x100) <<< 8 := (Nat.shiftLeft_eq (p.toNat / 0x100) 8).symm
  have hoffset : (p.toNat + 1) % 0x100 < 2 ^ 8 := Nat.mod_lt _ (by decide)
  have hsum : p.toNat / 0x100 * 0x100 + (p.toNat + 1) % 0x100 < 2 ^ 16 := by omega
  apply BitVec.eq_of_toNat_eq
  rw [indirectHigh, BitVec.toNat_or, word_and_FF00_toNat, word_and_00FF_toNat, hsucc, BitVec.toNat_ofNat,
    Nat.mod_eq_of_lt hsum, hpage, Nat.shiftLeft_add_eq_or_of_lt hoffset]

/-- The target of a branch is the signed sum modulo 0x10000 (R62). -/
theorem relTarget_eq_ofInt (pc : Word) (r : Byte) : relTarget pc r = BitVec.ofInt 16 ((pc.toNat : Int) + r.toInt) := by
  have hpc : BitVec.ofInt 16 (pc.toNat : Int) = pc := by
    rw [BitVec.ofInt_natCast, BitVec.ofNat_toNat, BitVec.setWidth_eq]
  rw [BitVec.ofInt_add, hpc]
  rfl

/-! ### Jumps (R114) -/

theorem exec_jmpInd (a : Word) (s : State) :
    exec (.jmpInd a) s =
      (let lo := s.memRead a
       let hi := lo.2.memRead (BitVec.ofNat 16 (a.toNat / 0x100 * 0x100 + (a.toNat + 1) % 0x100))
       done 5 { hi.2 with pc := word hi.1 lo.1 }) := by
  change finish 5 ((s.readIndirect a).2.setPc (s.readIndirect a).1) = _
  rw [finish_eq_done, State.readIndirect, indirectHigh_eq_ofNat, wordOf_eq_word]
  rfl

/-- Settles O34: the absolute jump is the write of PC alone; the indirect one reads on the pointer's own page. -/
theorem jumpTargets : Obligations.JumpTargets := by
  intro s a
  refine ⟨⟨rfl, ?abs⟩, ⟨rfl, ?ind⟩⟩
  case abs => exact finish_eq_done 3 (s.setPc a)
  case ind => exact exec_jmpInd a s

/-! ### Words on the stack (R28, R32) -/

theorem hiByte_eq_high (w : Word) : hiByte w = high w := by
  have hhigh : hiByte w = BitVec.ofNat 8 (w.toNat >>> 8) := rfl
  rw [hhigh, high, Nat.shiftRight_eq_div_pow]

theorem loByte_eq_low (w : Word) : loByte w = low w :=
  BitVec.eq_of_toNat_eq (Nat.mod_mod w.toNat 0x100).symm

theorem State.push16_eq_pushed (s : State) (w : Word) : s.push16 w = pushed (pushed s (high w)) (low w) := by
  rw [State.push16, State.push_eq_pushed, State.push_eq_pushed, hiByte_eq_high, loByte_eq_low]

/-- Two pulls read the two slots above SP, the low byte from the nearer one. -/
theorem State.pull16_eq_word (s : State) :
    s.pull16 = (word (s.busRead (slot (s.sp + 2))) (s.busRead (slot (s.sp + 1))), s.setSp (s.sp + 2)) := by
  rw [State.pull16_eq, wordOf_eq_word, stackAddr_eq_slot, stackAddr_eq_slot, BitVec.add_assoc s.sp 1 1]
  rfl

/-- A return takes P from the slot above SP and PC, low byte first, from the two after it (R117, R145). -/
theorem State.intReturn_eq_word (s : State) :
    s.intReturn =
      { s with
        flags := Flags.ofByte (pulled s)
        sp := s.sp + 3
        pc := word (s.busRead (slot (s.sp + 3))) (s.busRead (slot (s.sp + 2))) } := by
  have htwo : s.sp + 1 + 1 = s.sp + 2 := BitVec.add_assoc s.sp 1 1
  have hthree : s.sp + 2 + 1 = s.sp + 3 := BitVec.add_assoc s.sp 2 1
  rw [State.intReturn_eq, htwo, hthree, wordOf_eq_word, stackAddr_eq_slot, stackAddr_eq_slot, stackAddr_eq_slot, pulled]

/-- An entry whose vector is no port is the statements' entry sequence, with `(P & 0xCF) | bits` pushed (R140). -/
theorem State.intEntry_eq_entered (s : State) (vector : Word) (bits : Byte) (h0 : vector ≠ serialIn)
    (h1 : vector + 1 ≠ serialIn) :
    s.intEntry vector bits = entered s vector ((s.status &&& 0xCF) ||| bits) := by
  have hframe : s.pushFrame bits = entryPushes s ((s.status &&& 0xCF) ||| bits) := by
    rw [State.pushFrame, State.push16_eq_pushed, State.push_eq_pushed, entryPushes]
  have hflags : (s.pushFrame bits).flags = s.flags := by
    simp only [State.pushFrame, State.push16, State.push_eq]
  rw [State.intEntry_eq s vector bits h0 h1, hflags, hframe, wordOf_eq_word]
  rfl

/-! ### Subroutines and interrupts by instruction (R115 to R118) -/

/-- Settles O35: the two pushes of PC - 1, then the write of PC. -/
theorem jsrPushesReturn : Obligations.JsrPushesReturn := by
  intro s a
  refine ⟨rfl, ?_⟩
  change finish 6 ((s.push16 (s.pc - 1)).setPc a) = _
  rw [finish_eq_done, State.push16_eq_pushed, State.setPc]

theorem exec_rts (s : State) :
    exec .rts s =
      done 6 { s with sp := s.sp + 2, pc := word (s.busRead (slot (s.sp + 2))) (s.busRead (slot (s.sp + 1))) + 1 } := by
  change finish 6 (s.pull16.2.setPc (s.pull16.1 + 1)) = _
  rw [finish_eq_done, State.pull16_eq_word]
  rfl

theorem exec_rti (s : State) :
    exec .rti s =
      done 6 { s with
        flags := Flags.ofByte (pulled s)
        sp := s.sp + 3
        pc := word (s.busRead (slot (s.sp + 3))) (s.busRead (slot (s.sp + 2))) } := by
  change finish 6 s.intReturn = _
  rw [finish_eq_done, State.intReturn_eq_word]

/-- Settles O36: RTS as two pulls and RTI as the return from an entry; the flags of RTI are those of the pulled byte. -/
theorem returnsPull : Obligations.ReturnsPull := by
  intro s
  refine ⟨⟨rfl, exec_rts s⟩, ⟨rfl, ?rti⟩⟩
  case rti => exact ⟨Flags.ofByte (pulled s), Flags.toByte_ofByte (pulled s), exec_rti s⟩

/-- Settles O37: BRK is the shared entry from PC + 1; neither byte of its vector is the input port. -/
theorem brkTakesEntry : Obligations.BrkTakesEntry := by
  intro s
  refine ⟨rfl, ?_⟩
  change finish 7 ((s.setPc (s.pc + 1)).intEntry vectorIrq 0x30) = _
  rw [finish_eq_done, State.intEntry_eq_entered (s.setPc (s.pc + 1)) vectorIrq 0x30 (by decide) (by decide)]
  rfl

/-! ### Branches (R119 to R127) -/

/-- A branch writes PC alone, and only when its condition holds; the page charge compares PC with the target (R163). -/
theorem branch_eq (cond : Bool) (r : Byte) (s : State) :
    branch cond r s =
      (let target := BitVec.ofInt 16 ((s.pc.toNat : Int) + r.toInt)
       if cond then
         done (3 + pageCharge (decide (s.pc.toNat / 0x100 ≠ target.toNat / 0x100))) { s with pc := target }
       else done 2 s) := by
  have hcycles : (if pageDiffers s.pc (relTarget s.pc r) then 4 else 3) =
      3 + pageCharge (pageDiffers s.pc (relTarget s.pc r)) := readCycles_eq_add_pageCharge 3 _
  rw [branch, hcycles, pageDiffers_eq_decide, relTarget_eq_ofInt, finish_eq_done, finish_eq_done]
  rfl

/-- Every row of the table runs the one branch on its condition, under the flags before it. -/
theorem branchRows_run_branch (s : State) (r : Byte) :
    (branchRows r).Forall fun b => encode b.1 = [b.2.1, r] ∧ exec b.1 s = branch (b.2.2 s.flags) r s :=
  ⟨⟨rfl, rfl⟩, ⟨rfl, rfl⟩, ⟨rfl, rfl⟩, ⟨rfl, rfl⟩, ⟨rfl, rfl⟩, ⟨rfl, rfl⟩, ⟨rfl, rfl⟩, ⟨rfl, rfl⟩⟩

/-- Settles O38: every row runs the one branch, whose whole effect is one equation. -/
theorem branchesOnFlag : Obligations.BranchesOnFlag := by
  intro s r
  exact (branchRows_run_branch s r).imp fun b ⟨hencode, hexec⟩ => ⟨hencode, hexec.trans (branch_eq (b.2.2 s.flags) r s)⟩

/-! ### NOP and the flag instructions (R128 to R135) -/

/-- Every row of the table is the write of its flags in 2 cycles. -/
theorem flagRows_run_setFlags (s : State) :
    (flagRows s.flags).Forall fun r => encode r.1 = [r.2.1] ∧ exec r.1 s = finish 2 (s.setFlags r.2.2) :=
  ⟨⟨rfl, rfl⟩, ⟨rfl, rfl⟩, ⟨rfl, rfl⟩, ⟨rfl, rfl⟩, ⟨rfl, rfl⟩, ⟨rfl, rfl⟩, ⟨rfl, rfl⟩⟩

/-- Settles O39: NOP is the end of a step alone; each flag instruction is the write of its flags. -/
theorem nopAndFlagInstructions : Obligations.NopAndFlagInstructions := by
  intro s
  refine ⟨⟨rfl, ?nop⟩, ?flags⟩
  case nop => exact finish_eq_done 2 s
  case flags =>
    exact (flagRows_run_setFlags s).imp fun r ⟨hencode, hexec⟩ =>
      ⟨hencode, hexec.trans (finish_eq_done 2 (s.setFlags r.2.2))⟩

end Sys2Proof.Machine

/-! PROOFS. Taking an interrupt (60_exceptions.md, R140). Neither byte of the NMI vector or of the IRQ/BRK vector is the input
port, so each entry reads its vector without a side effect. -/

namespace Sys2Proof.Machine

open Sys2Proof.Spec

/-- The entry of an NMI pushes its frame, sets I and goes to the word at 0xFFFA. -/
theorem State.intEntry_vectorNmi (s : State) (bits : Byte) :
    s.intEntry vectorNmi bits = entered s vectorNmi ((s.status &&& 0xCF) ||| bits) :=
  s.intEntry_eq_entered vectorNmi bits (by decide) (by decide)

/-- The entry of an IRQ or a BRK does the same from the word at 0xFFFE. -/
theorem State.intEntry_vectorIrq (s : State) (bits : Byte) :
    s.intEntry vectorIrq bits = entered s vectorIrq ((s.status &&& 0xCF) ||| bits) :=
  s.intEntry_eq_entered vectorIrq bits (by decide) (by decide)

/-- Settles O41: the entry law at each of the two vectors, whatever status bits are pushed. -/
theorem interruptEntrySequence : Obligations.InterruptEntrySequence := by
  intro s bits
  exact ⟨s.intEntry_vectorNmi bits, s.intEntry_vectorIrq bits⟩

end Sys2Proof.Machine

/-! PROOFS. Reset and loading (70_reset_and_hazards.md section 1, R155, R156). A bus write, and so a list of them, changes
only the two stores and the output queue; the image's writes are one write per offset; the load is described once, in its
three cases. -/

namespace Sys2Proof.Machine

open Sys2Proof.Spec

/-! ### reset() (R155) -/

/-- Settles O46: the vector's bytes as a word; every other field is the model's own write. -/
theorem hostResetEffect : Obligations.HostResetEffect := by
  intro s
  have hstatus : Flags.reset.toByte = 0x24 := by decide
  refine ⟨rfl, ?state, hstatus⟩
  case state =>
    rw [State.hostReset, wordOf_eq_word]
    rfl

/-! ### What the bus writes of a load keep -/

/-- `t` is `s` with other bytes in the two stores and the output queue. -/
def State.SameButStores (s t : State) : Prop := t = { s with mem := t.mem, plain := t.plain, outq := t.outq }

theorem State.SameButStores.refl (s : State) : s.SameButStores s := rfl

theorem State.SameButStores.trans {s t u : State} (hst : s.SameButStores t) (htu : t.SameButStores u) : s.SameButStores u := by
  unfold State.SameButStores at *
  rw [htu, hst]

theorem State.busWrite_sameButStores (s : State) (addr : Word) (b : Byte) : s.SameButStores (s.busWrite addr b) := by
  cases hroute : route s.bus addr with
  | none => rw [s.busWrite_of_unmapped b hroute]; exact .refl s
  | some device =>
    cases device with
    | monitoredRam => rw [s.busWrite_of_monitoredRam b hroute]; rfl
    | plainRam =>
      rw [s.busWrite_of_plainRam b hroute, State.plainWrite]
      split <;> rfl

theorem State.busWriteBytes_sameButStores (s : State) (addr : Word) (bytes : List Byte) :
    s.SameButStores (s.busWriteBytes addr bytes) := by
  induction bytes generalizing s addr with
  | nil => exact .refl s
  | cons b bs ih => exact (s.busWrite_sameButStores addr b).trans (ih (s.busWrite addr b) (addr + 1))

/-! ### load_program (R156) -/

/-- Writing an image from the address `n` on is one bus write per offset, at rising addresses. -/
theorem State.busWriteBytes_ofNat_eq_foldl (s : State) (n : Nat) (bytes : List Byte) :
    s.busWriteBytes (BitVec.ofNat 16 n) bytes =
      (List.range bytes.length).foldl (fun t k => t.busWrite (BitVec.ofNat 16 (n + k)) (bytes.getD k 0)) s := by
  induction bytes generalizing s n with
  | nil => rfl
  | cons b bs ih =>
    have hnext : BitVec.ofNat 16 n + 1 = BitVec.ofNat 16 (n + 1) := (BitVec.ofNat_add n 1).symm
    rw [State.busWriteBytes, hnext, ih, List.length_cons, List.range_succ_eq_map, List.foldl_cons, List.foldl_map]
    simp only [Nat.add_zero, Nat.add_assoc, Nat.add_comm 1, List.getD_cons_zero, List.getD_cons_succ]

theorem State.loadProgram_nil (s : State) (base : Word) : s.loadProgram [] base = (s, .readFailed) := rfl

theorem State.loadProgram_of_overflow (s : State) {bytes : List Byte} {base : Word} (hne : bytes ≠ [])
    (hover : 0x10000 < base.toNat + bytes.length) : s.loadProgram bytes base = (s, .memoryOverflow) := by
  rw [State.loadProgram, if_neg (mt List.isEmpty_iff.mp hne), if_pos hover]

theorem State.loadProgram_of_fits (s : State) {bytes : List Byte} {base : Word} (hne : bytes ≠ [])
    (hfits : base.toNat + bytes.length ≤ 0x10000) :
    s.loadProgram bytes base =
      (((s.busWriteBytes base bytes).busWrite 0xFFFC (low base)).busWrite 0xFFFD (high base), .done) := by
  rw [State.loadProgram, if_neg (mt List.isEmpty_iff.mp hne), if_neg (Nat.not_lt.mpr hfits), loByte_eq_low, hiByte_eq_high]
  rfl

/-- Whatever the image, a load changes only the two stores and the output queue. -/
theorem State.loadProgram_sameButStores (s : State) (bytes : List Byte) (base : Word) :
    s.SameButStores (s.loadProgram bytes base).1 := by
  by_cases hne : bytes = []
  · subst hne
    exact .refl s
  by_cases hfits : base.toNat + bytes.length ≤ 0x10000
  · rw [s.loadProgram_of_fits hne hfits]
    exact ((s.busWriteBytes_sameButStores base bytes).trans (State.busWrite_sameButStores _ 0xFFFC (low base))).trans
      (State.busWrite_sameButStores _ 0xFFFD (high base))
  · rw [s.loadProgram_of_overflow hne (Nat.lt_of_not_le hfits)]
    exact .refl s

/-- Settles O48: the three cases of a load, the image's writes counted by offset, and the frame of its bus writes. -/
theorem loadProgramWrites : Obligations.LoadProgramWrites := by
  intro s bytes base
  have hact : hostAct (.loadProgram bytes base) s = .next (s.loadProgram bytes base) := rfl
  rw [hact]
  refine ⟨?empty, ?overflow, ?fits, ?frame⟩
  case empty =>
    rintro rfl
    rw [State.loadProgram_nil]
  case overflow =>
    intro hne hover
    rw [s.loadProgram_of_overflow hne hover]
  case fits =>
    intro hne hfits
    have himage := s.busWriteBytes_ofNat_eq_foldl base.toNat bytes
    rw [BitVec.ofNat_toNat, BitVec.setWidth_eq] at himage
    rw [s.loadProgram_of_fits hne hfits, himage]
  case frame =>
    intro t reply hnext
    have ht : (s.loadProgram bytes base).1 = t := congrArg Prod.fst (Host.Outcome.next.inj hnext)
    have hframe : s.SameButStores t := ht ▸ s.loadProgram_sameButStores bytes base
    rw [hframe]
    exact ⟨rfl, rfl, rfl, rfl, rfl, rfl, rfl, rfl, rfl, rfl, rfl⟩

end Sys2Proof.Machine

/-! PROOFS. Decoding and encoding (30_encoding.md sections 1 and 2). Once for every instruction: the row its encoding starts
with and the operand the row makes it of. Once for every byte: its row makes only instructions that are encoded from it.
The two directions follow. -/

namespace Sys2Proof.Machine

open Sys2Proof.Spec

/-! ### The operand word (R28) -/

theorem wordOf_hiByte_loByte (w : Word) : wordOf (hiByte w) (loByte w) = w := by
  have hw : w.toNat < 0x10000 := w.isLt
  apply BitVec.eq_of_toNat_eq
  rw [wordOf_eq_word, hiByte_eq_high, loByte_eq_low, word, high, low, BitVec.toNat_ofNat, BitVec.toNat_ofNat,
    BitVec.toNat_ofNat]
  omega

theorem encodeWord_wordOf (op lo hi : Byte) : encodeWord op (wordOf hi lo) = [op, lo, hi] := by
  have hhi : hi.toNat < 256 := hi.isLt
  have hlo : lo.toNat < 256 := lo.isLt
  have hword : (wordOf hi lo).toNat = hi.toNat * 0x100 + lo.toNat := by
    rw [wordOf_eq_word, word, BitVec.toNat_ofNat]
    omega
  have hl : loByte (wordOf hi lo) = lo := by
    apply BitVec.eq_of_toNat_eq
    rw [loByte_eq_low, low, hword, BitVec.toNat_ofNat]
    omega
  have hh : hiByte (wordOf hi lo) = hi := by
    apply BitVec.eq_of_toNat_eq
    rw [hiByte_eq_high, high, hword, BitVec.toNat_ofNat]
    omega
  rw [encodeWord, hl, hh]

/-! ### Decoding by the row of the first byte (R51, R53) -/

theorem decode_of_row_none {op : Byte} (h : decodeRow op = none) (rest : List Byte) :
    decode (op :: rest) = .ok (.invalid op, rest) := by
  simp [decode, h]

theorem decode_of_row_bare {op : Byte} {i : Instr} (h : decodeRow op = some (.bare i)) (rest : List Byte) :
    decode (op :: rest) = .ok (i, rest) := by
  simp [decode, h]

theorem decode_of_row_two {op : Byte} {f : Word → Instr} (h : decodeRow op = some (.two f)) (lo hi : Byte) (rest : List Byte) :
    decode (op :: lo :: hi :: rest) = .ok (f (wordOf hi lo), rest) := by
  simp [decode, h]

/-- The encoding of `i` is an opcode and the operand bytes that the opcode's row makes `i` of. -/
inductive EncodedByRow (i : Instr) : Prop
  | none {op : Byte} (hrow : decodeRow op = Option.none) (hinstr : Instr.invalid op = i) (hencode : encode i = [op])
  | bare {op : Byte} (hrow : decodeRow op = some (.bare i)) (hencode : encode i = [op])
  | one {op : Byte} {f : Byte → Instr} (b : Byte) (hrow : decodeRow op = some (.one f)) (hinstr : f b = i)
      (hencode : encode i = [op, b])
  | two {op : Byte} {f : Word → Instr} (w : Word) (hrow : decodeRow op = some (.two f)) (hinstr : f w = i)
      (hencode : encode i = encodeWord op w)

theorem EncodedByRow.decode_encode {i : Instr} (h : EncodedByRow i) (rest : List Byte) :
    decode (encode i ++ rest) = .ok (i, rest) := by
  cases h with
  | none hrow hinstr hencode => rw [hencode, ← hinstr]; exact decode_of_row_none hrow rest
  | bare hrow hencode => rw [hencode]; exact decode_of_row_bare hrow rest
  | one b hrow hinstr hencode => rw [hencode, ← hinstr]; exact decode_of_row_one hrow b rest
  | two w hrow hinstr hencode =>
    have hdecode := decode_of_row_two hrow (loByte w) (hiByte w) rest
    rw [wordOf_hiByte_loByte, hinstr] at hdecode
    rw [hencode]
    exact hdecode

/-- Every well-formed instruction is in the opcode map at the opcode its encoding starts with. -/
theorem encodedByRow_of_wellFormed (i : Instr) (hwf : i.wellFormed = true) : EncodedByRow i := by
  cases i
  case invalid op =>
    exact .none (Option.isNone_iff_eq_none.mp (Laws.EncodedLength.decodeRow_isNone_of_invalid op hwf)) rfl rfl
  case brk | php | aslAcc | clc | plp | rolAcc | sec | rti | pha | lsrAcc | cli | rts | pla | rorAcc | sei | dey | txa | tya
      | txs | tay | tax | clv | tsx | iny | dex | cld | inx | nop | sed => exact .bare rfl rfl
  case ldaAbs a | ldaAbsX a | ldaAbsY a | ldxAbs a | ldxAbsY a | ldyAbs a | ldyAbsX a | staAbs a | staAbsX a | staAbsY a
      | stxAbs a | styAbs a | adcAbs a | adcAbsX a | adcAbsY a | sbcAbs a | sbcAbsX a | sbcAbsY a | cmpAbs a | cmpAbsX a
      | cmpAbsY a | cpxAbs a | cpyAbs a | incAbs a | incAbsX a | decAbs a | decAbsX a | andAbs a | andAbsX a | andAbsY a
      | oraAbs a | oraAbsX a | oraAbsY a | eorAbs a | eorAbsX a | eorAbsY a | bitAbs a | aslAbs a | aslAbsX a | lsrAbs a
      | lsrAbsX a | rolAbs a | rolAbsX a | rorAbs a | rorAbsX a | jmpAbs a | jmpInd a | jsr a => exact .two a rfl rfl rfl
  all_goals exact .one _ rfl rfl rfl

/-- Settles O1: the row of the encoding's first byte gives the instruction back. -/
theorem decodeOfEncode : Obligations.DecodeOfEncode := by
  intro i rest hwf
  exact (encodedByRow_of_wellFormed i hwf).decode_encode rest

/-! ### What a row can make -/

/-- The entry of the byte `op` makes only well-formed instructions, and each is encoded from `op` and its operand. -/
def RowEncodes (op : Byte) : Option Format → Prop
  | none => isInvalidOpcode op = true
  | some (.bare i) => (encode i, i.wellFormed) = ([op], true)
  | some (.one f) => (fun b => (encode (f b), (f b).wellFormed)) = fun b => ([op, b], true)
  | some (.two f) => (fun w => (encode (f w), (f w).wellFormed)) = fun w => (encodeWord op w, true)

/-- A property of every byte, from the sixteen bytes of each row of the map. -/
theorem forall_byte_of_nibbles {P : Byte → Prop}
    (h : ∀ hi < 16, (List.range 16).Forall fun lo => P (BitVec.ofNat 8 (16 * hi + lo))) (op : Byte) : P op := by
  have hop : op.toNat < 256 := op.isLt
  have hbyte : BitVec.ofNat 8 (16 * (op.toNat / 16) + op.toNat % 16) = op := by
    rw [Nat.div_add_mod, BitVec.ofNat_toNat, BitVec.setWidth_eq]
  have hrow := List.forall_iff_forall_mem.mp (h (op.toNat / 16) (by omega)) (op.toNat % 16) (List.mem_range.mpr (by omega))
  rwa [hbyte] at hrow

/-- The opcode map and the encoder agree at every byte: each of its sixteen rows by evaluating its sixteen entries. -/
theorem rowEncodes_decodeRow (op : Byte) : RowEncodes op (decodeRow op) := by
  refine forall_byte_of_nibbles (P := fun op => RowEncodes op (decodeRow op)) (fun hi hhi => ?_) op
  interval_cases hi
  all_goals exact ⟨rfl, rfl, rfl, rfl, rfl, rfl, rfl, rfl, rfl, rfl, rfl, rfl, rfl, rfl, rfl, rfl⟩

theorem wellFormed_invalid_of_row_none {op : Byte} (h : decodeRow op = none) : (Instr.invalid op).wellFormed = true := by
  have hrow := rowEncodes_decodeRow op
  rw [h] at hrow
  exact hrow

theorem encode_of_row_bare {op : Byte} {i : Instr} (h : decodeRow op = some (.bare i)) :
    encode i = [op] ∧ i.wellFormed = true := by
  have hrow := rowEncodes_decodeRow op
  rw [h] at hrow
  exact Prod.mk.inj hrow

theorem encode_of_row_one {op : Byte} {f : Byte → Instr} (h : decodeRow op = some (.one f)) (b : Byte) :
    encode (f b) = [op, b] ∧ (f b).wellFormed = true := by
  have hrow := rowEncodes_decodeRow op
  rw [h] at hrow
  exact Prod.mk.inj (congrFun hrow b)

theorem encode_of_row_two {op : Byte} {f : Word → Instr} (h : decodeRow op = some (.two f)) (w : Word) :
    encode (f w) = encodeWord op w ∧ (f w).wellFormed = true := by
  have hrow := rowEncodes_decodeRow op
  rw [h] at hrow
  exact Prod.mk.inj (congrFun hrow w)

/-- What a decoded list of bytes is: an opcode, the operand bytes its row asks for, and the rest. -/
theorem decode_cases {bytes rest : List Byte} {i : Instr} (h : decode bytes = .ok (i, rest)) :
    (∃ op, decodeRow op = none ∧ i = .invalid op ∧ bytes = op :: rest) ∨
    (∃ op, decodeRow op = some (.bare i) ∧ bytes = op :: rest) ∨
    (∃ op f b, decodeRow op = some (.one f) ∧ i = f b ∧ bytes = op :: b :: rest) ∨
    (∃ op f lo hi, decodeRow op = some (.two f) ∧ i = f (wordOf hi lo) ∧ bytes = op :: lo :: hi :: rest) := by
  rcases bytes with _ | ⟨op, tail⟩
  · cases h
  rcases hrow : decodeRow op with _ | (j | f | f)
  · rw [decode_of_row_none hrow] at h
    cases h
    exact .inl ⟨op, hrow, rfl, rfl⟩
  · rw [decode_of_row_bare hrow] at h
    cases h
    exact .inr (.inl ⟨op, hrow, rfl⟩)
  · rcases tail with _ | ⟨b, tail⟩
    · simp [decode, hrow] at h
    · rw [decode_of_row_one hrow] at h
      cases h
      exact .inr (.inr (.inl ⟨op, f, b, hrow, rfl, rfl⟩))
  · rcases tail with _ | ⟨lo, _ | ⟨hi, tail⟩⟩
    · simp [decode, hrow] at h
    · simp [decode, hrow] at h
    · rw [decode_of_row_two hrow] at h
      cases h
      exact .inr (.inr (.inr ⟨op, f, lo, hi, hrow, rfl, rfl⟩))

/-- Settles O2: in each case of a decoding, the row of the first byte encodes what it makes. -/
theorem encodeOfDecode : Obligations.EncodeOfDecode := by
  intro bytes rest i hdecode
  rcases decode_cases hdecode with ⟨op, hrow, rfl, rfl⟩ | ⟨op, hrow, rfl⟩ | ⟨op, f, b, hrow, rfl, rfl⟩ |
    ⟨op, f, lo, hi, hrow, rfl, rfl⟩
  · exact ⟨wellFormed_invalid_of_row_none hrow, rfl⟩
  · obtain ⟨hencode, hwf⟩ := encode_of_row_bare hrow
    exact ⟨hwf, by rw [hencode]; rfl⟩
  · obtain ⟨hencode, hwf⟩ := encode_of_row_one hrow b
    exact ⟨hwf, by rw [hencode]; rfl⟩
  · obtain ⟨hencode, hwf⟩ := encode_of_row_two hrow (wordOf hi lo)
    exact ⟨hwf, by rw [hencode, encodeWord_wordOf]; rfl⟩

/-- Settles O3: each list of bytes by the row of its first byte. -/
theorem knownBytesDecode : Obligations.KnownBytesDecode :=
  ⟨decode_of_row_one rfl _ _, decode_of_row_two rfl _ _ _, decode_of_row_two rfl _ _ _, decode_of_row_one rfl _ _,
    decode_of_row_two rfl _ _ _, decode_of_row_one rfl _ _, decode_of_row_bare rfl _, decode_of_row_bare rfl _,
    decode_of_row_bare rfl _, decode_of_row_one rfl _ _, decode_of_row_none rfl _⟩

/-! ### The bytes without an instruction (R55) -/

theorem mem_invalidOpcodes_iff (op : Byte) : op ∈ invalidOpcodes.flatten ↔ isInvalidOpcode op = true := by
  simp [isInvalidOpcode]

/-- Settles O4: the list by counting; a byte decodes alone to `invalid` exactly when what it decodes to is well-formed, and
a listed byte has no row. -/
theorem invalidBytesHaveNoRow : Obligations.InvalidBytesHaveNoRow := by
  refine ⟨by decide, fun op rest => ?_⟩
  rw [mem_invalidOpcodes_iff]
  constructor
  · intro hdecode
    exact (encodeOfDecode _ _ _ hdecode).1
  · intro hinvalid
    exact decodeOfEncode (.invalid op) rest hinvalid

end Sys2Proof.Machine

/-! PROOFS. What an instruction can do, said once. `Written` names the registers and flags an instruction may write, `Moves`
what may change between two states, and `Lawful` that a meaning completes, moves only so, and looks at no counter and no
debug setting. Each shared meaning is lawful, each instruction runs one of them, and the frames of all instructions follow. -/

namespace Sys2Proof.Machine

open Sys2Proof.Spec

/-! ### Frames -/

/-- Which registers and flags may be written, and whether the core may halt. -/
structure Written where
  a : Bool := false
  x : Bool := false
  y : Bool := false
  sp : Bool := false
  c : Bool := false
  zn : Bool := false
  i : Bool := false
  d : Bool := false
  v : Bool := false
  halted : Bool := false

/-- The flags `f` with those `w` names taken from `g`. -/
def Written.mergeFlags (w : Written) (f g : Flags) : Flags :=
  { c := cond w.c g.c f.c, z := cond w.zn g.z f.z, i := cond w.i g.i f.i, d := cond w.d g.d f.d, v := cond w.v g.v f.v,
    n := cond w.zn g.n f.n }

/-- The state `s` with what `w` names taken from `t`, and PC, the stores, the queues, the cycle count and the report. -/
def Written.merge (w : Written) (s t : State) : State :=
  { s with
    a := cond w.a t.a s.a, x := cond w.x t.x s.x, y := cond w.y t.y s.y, sp := cond w.sp t.sp s.sp
    flags := w.mergeFlags s.flags t.flags, halted := cond w.halted t.halted s.halted
    pc := t.pc, mem := t.mem, plain := t.plain, inq := t.inq, outq := t.outq, cycles := t.cycles, report := t.report }

/-- The CPU writes of `ws`, first one first. -/
def State.memWrites (s : State) (ws : List (Word × Byte)) : State := ws.foldl (fun t w => t.memWrite w.1 w.2) s

/-- Both stores and the output queue are the same. -/
def State.SameStores (s t : State) : Prop := t.mem = s.mem ∧ t.plain = s.plain ∧ t.outq = s.outq

/-- `t` is `s` but for what `w` names, PC, the cycle count, the report, bytes taken from the head of the input queue, and
CPU writes at the addresses `addrs`, in this order. -/
structure Moves (w : Written) (addrs : List Word) (s t : State) : Prop where
  frame : t = w.merge s t
  inq : t.inq <:+ s.inq
  writes : ∃ ws : List (Word × Byte), ws.map Prod.fst = addrs ∧ (s.memWrites ws).SameStores t

/-- The state with `k` more cycles, the debug flag `on` and the frequency `hz`. -/
def State.tweak (k hz : Nat) (on : Bool) (s : State) : State := { s with cycles := s.cycles + k, debug := on, freqHz := hz }

/-- The meaning `f` answers a next state, moves only so, and does not look at the cycle count, the debug flag and the
frequency. -/
structure Lawful (w : Written) (addrs : State → List Word) (f : State → Result) : Prop where
  completes : ∀ s, ∃ t, f s = .next t ∧ Moves w (addrs s) s t
  unobserved : ∀ k hz on s, f (s.tweak k hz on) = onNext (State.tweak k hz on) (f s)

/-! ### The cycle count, the debug flag and the frequency -/

section
variable (k hz : Nat) (on : Bool) (s : State)

theorem State.memRead_tweak (addr : Word) :
    (s.tweak k hz on).memRead addr = ((s.memRead addr).1, (s.memRead addr).2.tweak k hz on) := by
  rw [State.memRead_eq, State.memRead_eq]
  rfl

theorem State.memWrite_tweak (addr : Word) (b : Byte) :
    (s.tweak k hz on).memWrite addr b = (s.memWrite addr b).tweak k hz on := by
  rw [State.memWrite_eq, State.memWrite_eq]
  rfl

theorem MemOperand.resolve_tweak (m : MemOperand) :
    m.resolve (s.tweak k hz on) = ((m.resolve s).1, (m.resolve s).2.tweak k hz on) := by
  rw [MemOperand.resolve_eq, MemOperand.resolve_eq]
  cases m <;> rfl

theorem Source.load_tweak (src : Source) :
    src.load (s.tweak k hz on) = { src.load s with after := (src.load s).after.tweak k hz on } := by
  cases src with
  | imm v => rfl
  | mem m => simp only [Source.load, MemOperand.resolve_tweak, State.memRead_tweak]

theorem State.push_tweak (v : Byte) : (s.tweak k hz on).push v = (s.push v).tweak k hz on := by
  rw [State.push_eq, State.push_eq]
  rfl

theorem State.push16_tweak (w : Word) : (s.tweak k hz on).push16 w = (s.push16 w).tweak k hz on := by
  rw [State.push16, State.push16, State.push_tweak, State.push_tweak]

theorem State.pushFrame_tweak (bits : Byte) : (s.tweak k hz on).pushFrame bits = (s.pushFrame bits).tweak k hz on := by
  have hpush := State.push16_tweak k hz on s s.pc
  have hframe := State.push_tweak k hz on (s.push16 s.pc) ((s.status &&& 0xCF) ||| bits)
  rw [← hpush] at hframe
  exact hframe

theorem State.pull_tweak : (s.tweak k hz on).pull = (s.pull.1, s.pull.2.tweak k hz on) := by
  rw [State.pull_eq, State.pull_eq]
  rfl

theorem finish_tweak (n : Nat) : finish n (s.tweak k hz on) = onNext (State.tweak k hz on) (finish n s) := by
  have hcycles : s.cycles + k + n = s.cycles + n + k := Nat.add_right_comm s.cycles k n
  simp only [finish, onNext, State.account, State.tweak, hcycles]

end

/-! ### Lawful meanings by their shape -/

theorem Moves.account {w : Written} {addrs : List Word} {s t : State} (h : Moves w addrs s t) (n : Nat) :
    Moves w addrs s (t.account n) where
  frame := congrArg (State.account · n) h.frame
  inq := h.inq
  writes := h.writes

/-- A change of registers and a shorter input queue, without a write. -/
theorem Moves.of_no_write {w : Written} {s t : State} (hframe : t = w.merge s t) (hinq : t.inq <:+ s.inq)
    (hstores : s.SameStores t) : Moves w [] s t :=
  ⟨hframe, hinq, [], rfl, hstores⟩

/-- A meaning that ends a step of `n s` cycles in the state `g s`. -/
theorem Lawful.of_finish {w : Written} {addrs : State → List Word} {f : State → Result} {n : State → Nat} {g : State → State}
    (hf : ∀ s, f s = finish (n s) (g s)) (hmoves : ∀ s, Moves w (addrs s) s (g s))
    (hn : ∀ k hz on s, n (s.tweak k hz on) = n s)
    (hg : ∀ k hz on s, g (s.tweak k hz on) = (g s).tweak k hz on) : Lawful w addrs f where
  completes s := ⟨(g s).account (n s), hf s, (hmoves s).account (n s)⟩
  unobserved k hz on s := by rw [hf, hf, hn, hg, finish_tweak]

/-- A meaning that loads an operand and then writes registers and flags. -/
theorem Lawful.of_load {w : Written} {src : Source} {f : State → Result} (n : Bool → Nat) (g : State → Byte → State → State)
    (hf : ∀ s, f s = finish (n (src.load s).crossed) (g s (src.load s).value (src.load s).after) := by intros; rfl)
    (hg : ∀ s v q, g s v { s with inq := q } = w.merge s (g s v { s with inq := q }) := by intros; rfl)
    (hinq : ∀ s v t, (g s v t).inq = t.inq := by intros; rfl)
    (hstores : ∀ (s : State) (v : Byte) (t : State), t.SameStores (g s v t) := by intros; exact ⟨rfl, rfl, rfl⟩)
    (htweak : ∀ k hz on s v t, g (s.tweak k hz on) v (t.tweak k hz on) = (g s v t).tweak k hz on := by intros; rfl) :
    Lawful w (fun _ => []) f := by
  refine Lawful.of_finish hf (fun s => ?moves) (fun k hz on s => ?cycles) (fun k hz on s => ?state)
  case moves =>
    obtain ⟨q, hq, hafter⟩ := src.load_after s
    rw [hafter]
    exact .of_no_write (hg s _ q) (by rw [hinq]; exact hq) (hstores s _ _)
  case cycles => rw [Source.load_tweak]
  case state =>
    rw [Source.load_tweak]
    exact htweak k hz on s _ _

/-- A meaning that writes registers and flags alone. -/
theorem Lawful.of_registers {w : Written} {f : State → Result} (n : Nat) (g : State → State)
    (hf : ∀ s, f s = finish n (g s) := by intros; rfl)
    (hg : ∀ s, g s = w.merge s (g s) := by intros; rfl)
    (hinq : ∀ s, (g s).inq = s.inq := by intros; rfl)
    (hstores : ∀ s : State, s.SameStores (g s) := by intros; exact ⟨rfl, rfl, rfl⟩)
    (htweak : ∀ k hz on s, g (s.tweak k hz on) = (g s).tweak k hz on := by intros; rfl) : Lawful w (fun _ => []) f :=
  .of_finish hf (fun s => .of_no_write (hg s) (hinq s ▸ List.suffix_rfl) (hstores s)) (fun _ _ _ _ => rfl) htweak

/-! ### Operand reads: loads, arithmetic, compares, logic, BIT -/

theorem lda_lawful (src : Source) (base : Nat) : Lawful { a := true, zn := true } (fun _ => []) (lda src base) :=
  .of_load (readCycles base) fun _ v t => (t.setA v).setZN v

theorem ldx_lawful (src : Source) (base : Nat) : Lawful { x := true, zn := true } (fun _ => []) (ldx src base) :=
  .of_load (readCycles base) fun _ v t => (t.setX v).setZN v

theorem ldy_lawful (src : Source) (base : Nat) : Lawful { y := true, zn := true } (fun _ => []) (ldy src base) :=
  .of_load (readCycles base) fun _ v t => (t.setY v).setZN v

/-- ADC and SBC write C, Z, V and N beside A, in both modes. -/
def arithmeticWrites : Written := { a := true, c := true, zn := true, v := true }

theorem adcEffect_flags (p : Params) (f : Flags) (a m : Byte) :
    (adcEffect p f a m).flags = arithmeticWrites.mergeFlags f (adcEffect p f a m).flags := by
  rw [adcEffect]
  split <;> rfl

theorem sbcEffect_flags (p : Params) (f : Flags) (a m : Byte) :
    (sbcEffect p f a m).flags = arithmeticWrites.mergeFlags f (sbcEffect p f a m).flags := by
  rw [sbcEffect]
  split <;> rfl

theorem adc_lawful (src : Source) (base : Nat) : Lawful arithmeticWrites (fun _ => []) (adc src base) :=
  .of_load (readCycles base)
    (fun s v t => (t.setA (adcEffect s.params s.flags s.a v).result).setFlags (adcEffect s.params s.flags s.a v).flags)
    (hg := fun s v q => by
      rw [Written.merge, State.setFlags_flags, ← adcEffect_flags]
      rfl)

theorem sbc_lawful (src : Source) (base : Nat) : Lawful arithmeticWrites (fun _ => []) (sbc src base) :=
  .of_load (readCycles base)
    (fun s v t => (t.setA (sbcEffect s.params s.flags s.a v).result).setFlags (sbcEffect s.params s.flags s.a v).flags)
    (hg := fun s v q => by
      rw [Written.merge, State.setFlags_flags, ← sbcEffect_flags]
      rfl)

theorem logic_lawful (op : Byte → Byte → Byte) (src : Source) (base : Nat) :
    Lawful { a := true, zn := true } (fun _ => []) (logic op src base) :=
  .of_load (readCycles base) fun s v t => (t.setA (op s.a v)).setZN (op s.a v)

theorem cmp_lawful (src : Source) (base : Nat) : Lawful { c := true, zn := true } (fun _ => []) (cmp src base) :=
  .of_load (readCycles base) fun s v t => t.setFlags (compareFlags s.flags s.a v)

theorem cpx_lawful (src : Source) (base : Nat) : Lawful { c := true, zn := true } (fun _ => []) (cpx src base) :=
  .of_load (fun _ => base) fun s v t => t.setFlags (compareFlags s.flags s.x v)

theorem cpy_lawful (src : Source) (base : Nat) : Lawful { c := true, zn := true } (fun _ => []) (cpy src base) :=
  .of_load (fun _ => base) fun s v t => t.setFlags (compareFlags s.flags s.y v)

theorem bitTest_lawful (src : Source) (base : Nat) : Lawful { zn := true, v := true } (fun _ => []) (bitTest src base) :=
  .of_load (fun _ => base) fun s v t => t.setFlags (bitFlags s.flags s.a v)

/-! ### Stores and read-modify-writes -/

/-- One CPU write, with the registers and flags that `t` keeps of it. -/
theorem Moves.of_write {w : Written} {s t : State} (addr : Word) (v : Byte) (hframe : t = w.merge s t) (hinq : t.inq <:+ s.inq)
    (hstores : (s.memWrite addr v).SameStores t) : Moves w [addr] s t :=
  ⟨hframe, hinq, [(addr, v)], rfl, hstores⟩

/-- A store of the register `reg`. -/
theorem storeMem_lawful (m : MemOperand) (base : Nat) (reg : State → Byte)
    (hreg : ∀ k hz on s, reg (s.tweak k hz on) = reg s := by intros; rfl) :
    Lawful {} (fun s => [(m.resolve s).1.addr]) (fun s => storeMem m (reg s) base s) := by
  refine .of_finish (n := fun _ => base) (g := fun s => (m.resolve s).2.memWrite (m.resolve s).1.addr (reg s)) (fun _ => rfl)
    (fun s => ?moves) (fun _ _ _ _ => rfl) (fun k hz on s => ?tweak)
  case moves =>
    rw [MemOperand.resolve_eq]
    refine .of_write _ (reg s) ?_ ?_ ⟨rfl, rfl, rfl⟩
    · rw [State.memWrite_eq]
      rfl
    · rw [State.memWrite_eq]
  case tweak => rw [MemOperand.resolve_tweak, hreg, State.memWrite_tweak]

/-- A read-modify-write whose effect writes Z and N, and C when `carry` says so. -/
theorem modifyMem_lawful {f : Flags → Byte → Effect} (carry : Bool)
    (hf : ∀ fl v, (f fl v).flags = ({ c := carry, zn := true } : Written).mergeFlags fl (f fl v).flags) (m : MemOperand)
    (base : Nat) : Lawful { c := carry, zn := true } (fun s => [(m.resolve s).1.addr]) (modifyMem f m base) := by
  refine .of_finish (n := fun _ => base)
    (g := fun s =>
      (((m.resolve s).2.memRead (m.resolve s).1.addr).2.memWrite (m.resolve s).1.addr
        (f s.flags ((m.resolve s).2.memRead (m.resolve s).1.addr).1).result).setFlags
          (f s.flags ((m.resolve s).2.memRead (m.resolve s).1.addr).1).flags)
    (fun _ => rfl) (fun s => ?moves) (fun _ _ _ _ => rfl) (fun k hz on s => ?tweak)
  case moves =>
    rw [MemOperand.resolve_eq, State.memRead_eq]
    refine .of_write (m.ea s).addr (f s.flags (s.readValue (m.ea s).addr)).result ?frame ?inq ?stores
    case frame =>
      rw [Written.merge, State.setFlags_flags, ← hf, State.memWrite_eq]
      rfl
    case inq =>
      rw [State.memWrite_eq]
      exact inqAfterRead_suffix s.inq _
    case stores =>
      rw [State.memWrite_eq, State.memWrite_eq]
      exact ⟨rfl, rfl, rfl⟩
  case tweak =>
    simp only [MemOperand.resolve_tweak, State.memRead_tweak, State.memWrite_tweak]
    rfl

theorem incDec_lawful {f : Flags → Byte → Effect}
    (hf : ∀ fl v, (f fl v).flags = ({ zn := true } : Written).mergeFlags fl (f fl v).flags) (m : MemOperand) (base : Nat) :
    Lawful { zn := true } (fun s => [(m.resolve s).1.addr]) (modifyMem f m base) :=
  modifyMem_lawful false hf m base

/-- What a shift or rotate writes of the flags: C, and Z and N. -/
def ShiftFlags (f : Flags → Byte → Effect) : Prop :=
  ∀ fl v, (f fl v).flags = ({ c := true, zn := true } : Written).mergeFlags fl (f fl v).flags

theorem shiftMem_lawful {f : Flags → Byte → Effect} (hf : ShiftFlags f) (m : MemOperand) (base : Nat) :
    Lawful { c := true, zn := true } (fun s => [(m.resolve s).1.addr]) (modifyPlace f (.mem m) base) :=
  modifyMem_lawful true hf m base

theorem shiftAcc_lawful {f : Flags → Byte → Effect} (hf : ShiftFlags f) (base : Nat) :
    Lawful { a := true, c := true, zn := true } (fun _ => []) (modifyPlace f .acc base) :=
  .of_registers base (fun s => (s.setA (f s.flags s.a).result).setFlags (f s.flags s.a).flags)
    (hg := fun s => by
      rw [Written.merge, State.setFlags_flags, hf]
      rfl)

/-! ### Stack, jumps, interrupts and branches -/

/-- A push of a byte that is no counter. -/
theorem push_lawful {f : State → Result} (n : Nat) (v : State → Byte)
    (hf : ∀ s, f s = finish n (s.push (v s)) := by intros; rfl)
    (hv : ∀ k hz on s, v (s.tweak k hz on) = v s := by intros; rfl) :
    Lawful { sp := true } (fun s => [stackAddr s.sp]) f := by
  refine .of_finish hf (fun s => ?moves) (fun _ _ _ _ => rfl) (fun k hz on s => ?tweak)
  case moves =>
    refine .of_write (stackAddr s.sp) (v s) ?_ ?_ ⟨rfl, rfl, rfl⟩
    · rw [State.push_eq]
      rfl
    · rw [State.push_eq]
  case tweak => rw [hv, State.push_tweak]

/-- A byte pulled into registers or flags. -/
theorem pull_lawful {w : Written} {f : State → Result} (n : Nat) (g : Byte → State → State)
    (hf : ∀ s, f s = finish n (g s.pull.1 s.pull.2) := by intros; rfl)
    (hg : ∀ (s : State) (v : Byte), g v (s.setSp (s.sp + 1)) = w.merge s (g v (s.setSp (s.sp + 1))) := by intros; rfl)
    (hinq : ∀ (s : State) (v : Byte), (g v s).inq = s.inq := by intros; rfl)
    (hstores : ∀ (s : State) (v : Byte), s.SameStores (g v s) := by intros; exact ⟨rfl, rfl, rfl⟩)
    (htweak : ∀ k hz on s v, g v (s.tweak k hz on) = (g v s).tweak k hz on := by intros; rfl) :
    Lawful w (fun _ => []) f := by
  have hpull : ∀ s : State, s.pull = (s.busRead (stackAddr (s.sp + 1)), s.setSp (s.sp + 1)) := State.pull_eq
  refine .of_registers n (fun s => g s.pull.1 s.pull.2) hf (fun s => ?_) (fun s => ?_) (fun s => ?_) (fun k hz on s => ?_)
  · rw [hpull]; exact hg s _
  · rw [hpull]; exact hinq _ _
  · rw [hpull]; exact hstores (s.setSp (s.sp + 1)) _
  · rw [State.pull_tweak]; exact htweak k hz on _ _

theorem jmpInd_lawful (a : Word) : Lawful {} (fun _ => []) (execJmpInd a) := by
  refine .of_finish (n := fun _ => 5) (g := fun s => (s.readIndirect a).2.setPc (s.readIndirect a).1) (fun _ => rfl)
    (fun s => ?moves) (fun _ _ _ _ => rfl) (fun k hz on s => ?tweak)
  case moves =>
    rw [State.readIndirect_snd]
    exact .of_no_write rfl ((inqAfterRead_suffix _ _).trans (inqAfterRead_suffix _ _)) ⟨rfl, rfl, rfl⟩
  case tweak =>
    simp only [State.readIndirect, State.memRead_tweak]
    rfl

theorem State.push16_moves (s : State) (w : Word) :
    Moves { sp := true } [stackAddr s.sp, stackAddr (s.sp - 1)] s (s.push16 w) := by
  rw [State.push16, State.push_eq, State.push_eq]
  refine ⟨rfl, List.suffix_rfl, [(stackAddr s.sp, hiByte w), (stackAddr (s.sp - 1), loByte w)], rfl, ?_⟩
  simp only [State.memWrites, List.foldl_cons, List.foldl_nil, State.memWrite_eq]
  exact ⟨rfl, rfl, rfl⟩

theorem jsr_lawful (a : Word) :
    Lawful { sp := true } (fun s => [stackAddr s.sp, stackAddr (s.sp - 1)]) (execJsr a) := by
  refine .of_finish (n := fun _ => 6) (g := fun s => (s.push16 (s.pc - 1)).setPc a) (fun _ => rfl) (fun s => ?moves)
    (fun _ _ _ _ => rfl) (fun k hz on s => ?tweak)
  case moves =>
    obtain ⟨hframe, hinq, hwrites⟩ := s.push16_moves (s.pc - 1)
    exact ⟨congrArg (State.setPc · a) hframe, hinq, hwrites⟩
  case tweak =>
    rw [State.push16_tweak]
    rfl

theorem rts_lawful : Lawful { sp := true } (fun _ => []) execRts :=
  .of_registers 6 (fun s => s.pull16.2.setPc (s.pull16.1 + 1))
    (hg := fun s => by rw [State.pull16_eq]; rfl)
    (hinq := fun s => by rw [State.pull16_eq]; rfl)
    (hstores := fun s => by rw [State.pull16_eq]; exact ⟨rfl, rfl, rfl⟩)
    (htweak := fun k hz on s => by rw [State.pull16_eq, State.pull16_eq]; rfl)

theorem rti_lawful : Lawful { sp := true, c := true, zn := true, i := true, d := true, v := true } (fun _ => []) execRti :=
  .of_registers 6 State.intReturn
    (hg := fun s => by rw [State.intReturn_eq]; rfl)
    (hinq := fun s => by rw [State.intReturn_eq])
    (hstores := fun s => by rw [State.intReturn_eq]; exact ⟨rfl, rfl, rfl⟩)
    (htweak := fun k hz on s => by rw [State.intReturn_eq, State.intReturn_eq]; rfl)

/-- An entry from the address `pc` pushes three bytes, sets I and writes PC. -/
theorem State.intEntry_moves (s : State) (pc vector : Word) (bits : Byte) (h0 : vector ≠ serialIn) (h1 : vector + 1 ≠ serialIn) :
    Moves { sp := true, i := true } [stackAddr s.sp, stackAddr (s.sp - 1), stackAddr (s.sp - 2)] s
      ((s.setPc pc).intEntry vector bits) := by
  have hsp : s.sp - 2 = s.sp - 1 - 1 := by bv_omega
  rw [State.intEntry_eq _ _ _ h0 h1, State.pushFrame, State.push16, State.push_eq, State.push_eq, State.push_eq, hsp]
  refine ⟨rfl, List.suffix_rfl,
    [(stackAddr s.sp, hiByte pc), (stackAddr (s.sp - 1), loByte pc), (stackAddr (s.sp - 1 - 1), (s.status &&& 0xCF) ||| bits)],
    rfl, ?_⟩
  simp only [State.memWrites, List.foldl_cons, List.foldl_nil, State.memWrite_eq]
  exact ⟨rfl, rfl, rfl⟩

theorem State.intEntry_tweak (k hz : Nat) (on : Bool) (s : State) (vector : Word) (bits : Byte) (h0 : vector ≠ serialIn)
    (h1 : vector + 1 ≠ serialIn) : (s.tweak k hz on).intEntry vector bits = (s.intEntry vector bits).tweak k hz on := by
  rw [State.intEntry_eq _ _ _ h0 h1, State.intEntry_eq _ _ _ h0 h1, State.pushFrame_tweak]
  rfl

theorem brk_lawful :
    Lawful { sp := true, i := true } (fun s => [stackAddr s.sp, stackAddr (s.sp - 1), stackAddr (s.sp - 2)]) execBrk :=
  .of_finish (n := fun _ => 7) (g := fun s => (s.setPc (s.pc + 1)).intEntry vectorIrq 0x30) (fun _ => rfl)
    (fun s => s.intEntry_moves (s.pc + 1) vectorIrq 0x30 (by decide) (by decide)) (fun _ _ _ _ => rfl)
    (fun k hz on s => (s.setPc (s.pc + 1)).intEntry_tweak k hz on vectorIrq 0x30 (by decide) (by decide))

theorem branch_lawful (cond : Flags → Bool) (r : Byte) : Lawful {} (fun _ => []) (fun s => branch (cond s.flags) r s) := by
  refine .of_finish
    (n := fun s => if cond s.flags then (if pageDiffers s.pc (relTarget s.pc r) then 4 else 3) else 2)
    (g := fun s => if cond s.flags then s.setPc (relTarget s.pc r) else s)
    (fun s => ?split) (fun s => ?moves) (fun _ _ _ _ => rfl) (fun k hz on s => ?tweak)
  case split =>
    rw [branch]
    cases cond s.flags <;> rfl
  case moves =>
    cases cond s.flags
    · exact .of_no_write rfl List.suffix_rfl ⟨rfl, rfl, rfl⟩
    · exact .of_no_write rfl List.suffix_rfl ⟨rfl, rfl, rfl⟩
  case tweak =>
    have hflags : (s.tweak k hz on).flags = s.flags := rfl
    rw [hflags]
    cases cond s.flags <;> rfl

/-- A byte without a row halts the core. -/
theorem invalid_lawful (op : Byte) : Lawful { halted := true } (fun _ => []) (execInvalid op) where
  completes s := ⟨s.raiseInvalidOpcode op, rfl, .of_no_write rfl List.suffix_rfl ⟨rfl, rfl, rfl⟩⟩
  unobserved _ _ _ _ := rfl

/-! ### Every instruction -/

/-- What an instruction writes, by the lists of writers of 10_state.md sections 1 and 3. -/
def written (i : Instr) : Written :=
  { a := writesA i, x := writesX i, y := writesY i, sp := writesSp i, c := writesC i, zn := writesZN i, i := writesI i
    d := writesD i, v := writesV i, halted := mnemonic i == .none }

/-- Every instruction runs a meaning that writes what the lists say, and stores where `storedTo` says. -/
theorem exec_lawful (i : Instr) : Lawful (written i) (storedTo i) (exec i) :=
  match i with
  | .ldaImm _ | .ldaZp _ | .ldaZpX _ | .ldaAbs _ | .ldaAbsX _ | .ldaAbsY _ | .ldaIndX _ | .ldaIndY _ => lda_lawful _ _
  | .ldxImm _ | .ldxZp _ | .ldxZpY _ | .ldxAbs _ | .ldxAbsY _ => ldx_lawful _ _
  | .ldyImm _ | .ldyZp _ | .ldyZpX _ | .ldyAbs _ | .ldyAbsX _ => ldy_lawful _ _
  | .staZp _ | .staZpX _ | .staAbs _ | .staAbsX _ | .staAbsY _ | .staIndX _ | .staIndY _ => storeMem_lawful _ _ State.a
  | .stxZp _ | .stxZpY _ | .stxAbs _ => storeMem_lawful _ _ State.x
  | .styZp _ | .styZpX _ | .styAbs _ => storeMem_lawful _ _ State.y
  | .tax => .of_registers 2 fun s => (s.setX s.a).setZN s.a
  | .tay => .of_registers 2 fun s => (s.setY s.a).setZN s.a
  | .txa => .of_registers 2 fun s => (s.setA s.x).setZN s.x
  | .tya => .of_registers 2 fun s => (s.setA s.y).setZN s.y
  | .tsx => .of_registers 2 fun s => (s.setX s.sp).setZN s.sp
  | .txs => .of_registers 2 fun s => s.setSp s.x
  | .pha => push_lawful 3 State.a
  | .php => push_lawful 3 fun s => s.status ||| 0x30
  | .pla => pull_lawful 4 fun v s => (s.setA v).setZN v
  | .plp => pull_lawful 4 fun v s => s.setFlags (Flags.ofByte v)
  | .adcImm _ | .adcZp _ | .adcZpX _ | .adcAbs _ | .adcAbsX _ | .adcAbsY _ | .adcIndX _ | .adcIndY _ => adc_lawful _ _
  | .sbcImm _ | .sbcZp _ | .sbcZpX _ | .sbcAbs _ | .sbcAbsX _ | .sbcAbsY _ | .sbcIndX _ | .sbcIndY _ | .sbcImmEB _ =>
    sbc_lawful _ _
  | .cmpImm _ | .cmpZp _ | .cmpZpX _ | .cmpAbs _ | .cmpAbsX _ | .cmpAbsY _ | .cmpIndX _ | .cmpIndY _ => cmp_lawful _ _
  | .cpxImm _ | .cpxZp _ | .cpxAbs _ => cpx_lawful _ _
  | .cpyImm _ | .cpyZp _ | .cpyAbs _ => cpy_lawful _ _
  | .incZp _ | .incZpX _ | .incAbs _ | .incAbsX _ => incDec_lawful (f := incEffect) (fun _ _ => rfl) _ _
  | .decZp _ | .decZpX _ | .decAbs _ | .decAbsX _ => incDec_lawful (f := decEffect) (fun _ _ => rfl) _ _
  | .inx => .of_registers 2 fun s => (s.setX (s.x + 1)).setZN (s.x + 1)
  | .iny => .of_registers 2 fun s => (s.setY (s.y + 1)).setZN (s.y + 1)
  | .dex => .of_registers 2 fun s => (s.setX (s.x - 1)).setZN (s.x - 1)
  | .dey => .of_registers 2 fun s => (s.setY (s.y - 1)).setZN (s.y - 1)
  | .andImm _ | .andZp _ | .andZpX _ | .andAbs _ | .andAbsX _ | .andAbsY _ | .andIndX _ | .andIndY _
  | .oraImm _ | .oraZp _ | .oraZpX _ | .oraAbs _ | .oraAbsX _ | .oraAbsY _ | .oraIndX _ | .oraIndY _
  | .eorImm _ | .eorZp _ | .eorZpX _ | .eorAbs _ | .eorAbsX _ | .eorAbsY _ | .eorIndX _ | .eorIndY _ => logic_lawful _ _ _
  | .bitZp _ | .bitAbs _ => bitTest_lawful _ _
  | .aslZp _ | .aslZpX _ | .aslAbs _ | .aslAbsX _ => shiftMem_lawful (f := aslEffect) (fun _ _ => rfl) _ _
  | .lsrZp _ | .lsrZpX _ | .lsrAbs _ | .lsrAbsX _ => shiftMem_lawful (f := lsrEffect) (fun _ _ => rfl) _ _
  | .rolZp _ | .rolZpX _ | .rolAbs _ | .rolAbsX _ => shiftMem_lawful (f := rolEffect) (fun _ _ => rfl) _ _
  | .rorZp _ | .rorZpX _ | .rorAbs _ | .rorAbsX _ => shiftMem_lawful (f := rorEffect) (fun _ _ => rfl) _ _
  | .aslAcc => shiftAcc_lawful (f := aslEffect) (fun _ _ => rfl) 2
  | .lsrAcc => shiftAcc_lawful (f := lsrEffect) (fun _ _ => rfl) 2
  | .rolAcc => shiftAcc_lawful (f := rolEffect) (fun _ _ => rfl) 2
  | .rorAcc => shiftAcc_lawful (f := rorEffect) (fun _ _ => rfl) 2
  | .jmpAbs a => .of_registers 3 fun s => s.setPc a
  | .jmpInd a => jmpInd_lawful a
  | .jsr a => jsr_lawful a
  | .rts => rts_lawful
  | .rti => rti_lawful
  | .brk => brk_lawful
  | .bpl r => branch_lawful (fun f => !f.n) r
  | .bmi r => branch_lawful (fun f => f.n) r
  | .bvc r => branch_lawful (fun f => !f.v) r
  | .bvs r => branch_lawful (fun f => f.v) r
  | .bcc r => branch_lawful (fun f => !f.c) r
  | .bcs r => branch_lawful (fun f => f.c) r
  | .bne r => branch_lawful (fun f => !f.z) r
  | .beq r => branch_lawful (fun f => f.z) r
  | .nop => .of_registers 2 fun s => s
  | .clc => .of_registers 2 fun s => s.setFlags { s.flags with c := false }
  | .sec => .of_registers 2 fun s => s.setFlags { s.flags with c := true }
  | .cli => .of_registers 2 fun s => s.setFlags { s.flags with i := false }
  | .sei => .of_registers 2 fun s => s.setFlags { s.flags with i := true }
  | .cld => .of_registers 2 fun s => s.setFlags { s.flags with d := false }
  | .sed => .of_registers 2 fun s => s.setFlags { s.flags with d := true }
  | .clv => .of_registers 2 fun s => s.setFlags { s.flags with v := false }
  | .invalid op => invalid_lawful op

end Sys2Proof.Machine

/-! PROOFS. The frames of all instructions (10_state.md sections 1 and 3 to 5, 20_memory.md sections 3 and 7), read off what
every instruction can do, and what a step does not look at. -/

namespace Sys2Proof.Machine

open Sys2Proof.Spec

/-! ### What moves, field by field -/

section
variable {w : Written} {addrs : List Word} {s t : State} (h : Moves w addrs s t)
include h

theorem Moves.a_eq (hw : w.a = false) : t.a = s.a := by simpa [Written.merge, hw] using congrArg State.a h.frame

theorem Moves.x_eq (hw : w.x = false) : t.x = s.x := by simpa [Written.merge, hw] using congrArg State.x h.frame

theorem Moves.y_eq (hw : w.y = false) : t.y = s.y := by simpa [Written.merge, hw] using congrArg State.y h.frame

theorem Moves.sp_eq (hw : w.sp = false) : t.sp = s.sp := by simpa [Written.merge, hw] using congrArg State.sp h.frame

theorem Moves.halted_eq (hw : w.halted = false) : t.halted = s.halted := by
  simpa [Written.merge, hw] using congrArg State.halted h.frame

theorem Moves.flags_eq : t.flags = w.mergeFlags s.flags t.flags := congrArg State.flags h.frame

theorem Moves.c_eq (hw : w.c = false) : t.flags.c = s.flags.c := by
  simpa [Written.mergeFlags, hw] using congrArg Flags.c h.flags_eq

theorem Moves.z_eq (hw : w.zn = false) : t.flags.z = s.flags.z := by
  simpa [Written.mergeFlags, hw] using congrArg Flags.z h.flags_eq

theorem Moves.n_eq (hw : w.zn = false) : t.flags.n = s.flags.n := by
  simpa [Written.mergeFlags, hw] using congrArg Flags.n h.flags_eq

theorem Moves.i_eq (hw : w.i = false) : t.flags.i = s.flags.i := by
  simpa [Written.mergeFlags, hw] using congrArg Flags.i h.flags_eq

theorem Moves.d_eq (hw : w.d = false) : t.flags.d = s.flags.d := by
  simpa [Written.mergeFlags, hw] using congrArg Flags.d h.flags_eq

theorem Moves.v_eq (hw : w.v = false) : t.flags.v = s.flags.v := by
  simpa [Written.mergeFlags, hw] using congrArg Flags.v h.flags_eq

theorem Moves.irqPending_eq : t.irqPending = s.irqPending :=
  (congrArg State.irqPending h.frame).trans rfl

theorem Moves.nmiPending_eq : t.nmiPending = s.nmiPending :=
  (congrArg State.nmiPending h.frame).trans rfl

theorem Moves.paused_eq : t.paused = s.paused :=
  (congrArg State.paused h.frame).trans rfl

theorem Moves.bus_eq : t.bus = s.bus :=
  (congrArg State.bus h.frame).trans rfl

theorem Moves.params_eq : t.params = s.params :=
  (congrArg State.params h.frame).trans rfl

theorem Moves.freqHz_eq : t.freqHz = s.freqHz :=
  (congrArg State.freqHz h.frame).trans rfl

theorem Moves.debug_eq : t.debug = s.debug :=
  (congrArg State.debug h.frame).trans rfl

end

/-- A completed instruction moves only what its writer lists and its stores say. -/
theorem exec_moves {i : Instr} {s t : State} (h : exec i s = .next t) : Moves (written i) (storedTo i s) s t := by
  obtain ⟨u, hu, hmoves⟩ := (exec_lawful i).completes s
  cases hu.symm.trans h
  exact hmoves

/-- Settles O45: every instruction runs a meaning that answers a next state. -/
theorem everyInstructionCompletes : Obligations.EveryInstructionCompletes := by
  intro i s
  obtain ⟨t, ht, -⟩ := (exec_lawful i).completes s
  exact ⟨t, ht⟩

/-- Settles O57: a register that is not among the parts written is kept. -/
theorem registerFrame : Obligations.RegisterFrame := by
  intro i s t hexec
  have hmoves := exec_moves hexec
  exact ⟨hmoves.a_eq, hmoves.x_eq, hmoves.y_eq, hmoves.sp_eq⟩

/-- Settles O58: a flag that is not among the parts written is kept. -/
theorem flagFrame : Obligations.FlagFrame := by
  intro i s t hexec
  have hmoves := exec_moves hexec
  exact ⟨hmoves.c_eq, fun hw => ⟨hmoves.z_eq hw, hmoves.n_eq hw⟩, hmoves.i_eq, hmoves.d_eq, hmoves.v_eq⟩

/-! ### Memory and the queues -/

/-- A CPU write changes no byte of either store at another address. -/
theorem State.memWrite_stores_of_ne (s : State) {addr other : Word} (b : Byte) (h : other ≠ addr) :
    (s.memWrite addr b).mem.read other.toNat = s.mem.read other.toNat ∧
      (s.memWrite addr b).plain.read other.toNat = s.plain.read other.toNat := by
  have hn : other.toNat ≠ addr.toNat := fun e => h (BitVec.eq_of_toNat_eq e)
  rw [State.memWrite_eq]
  constructor
  · simp only [State.memAfter]
    split
    · exact Memory.read_write_of_ne _ _ hn
    · rfl
  · simp only [State.plainAfter]
    split
    · exact Memory.read_write_of_ne _ _ hn
    · rfl

/-- No CPU write changes the byte behind the output port: a write there is sent, not stored. -/
theorem State.busRead_serialOut_memWrite (s : State) (addr : Word) (b : Byte) :
    (s.memWrite addr b).busRead serialOut = s.busRead serialOut := by
  by_cases hport : addr = serialOut
  · rw [hport, State.memWrite_serialOut]
    exact State.busRead_congr rfl rfl rfl rfl serialOut
  · exact s.busRead_memWrite_of_ne b (Ne.symm hport)

theorem State.memWrites_cons (s : State) (addr : Word) (b : Byte) (ws : List (Word × Byte)) :
    s.memWrites ((addr, b) :: ws) = (s.memWrite addr b).memWrites ws := rfl

theorem State.memWrites_bus_params (s : State) (ws : List (Word × Byte)) :
    (s.memWrites ws).bus = s.bus ∧ (s.memWrites ws).params = s.params := by
  induction ws generalizing s with
  | nil => exact ⟨rfl, rfl⟩
  | cons w ws ih =>
    obtain ⟨addr, b⟩ := w
    obtain ⟨hbus, hparams⟩ := ih (s.memWrite addr b)
    rw [State.memWrite_eq] at hbus hparams
    rw [State.memWrites_cons, State.memWrite_eq]
    exact ⟨hbus, hparams⟩

/-- A list of CPU writes changes no byte at an address it does not name. -/
theorem State.memWrites_reads_of_notMem (s : State) {ws : List (Word × Byte)} {other : Word} (h : other ∉ ws.map Prod.fst) :
    (s.memWrites ws).busRead other = s.busRead other ∧
      (s.memWrites ws).mem.read other.toNat = s.mem.read other.toNat ∧
      (s.memWrites ws).plain.read other.toNat = s.plain.read other.toNat := by
  induction ws generalizing s with
  | nil => exact ⟨rfl, rfl, rfl⟩
  | cons w ws ih =>
    obtain ⟨addr, b⟩ := w
    rw [List.map_cons, List.mem_cons, not_or] at h
    obtain ⟨hne, hrest⟩ := h
    obtain ⟨hbus, hmem, hplain⟩ := ih (s.memWrite addr b) hrest
    obtain ⟨hmem', hplain'⟩ := s.memWrite_stores_of_ne b hne
    exact ⟨hbus.trans (s.busRead_memWrite_of_ne b hne), hmem.trans hmem', hplain.trans hplain'⟩

theorem State.busRead_serialOut_memWrites (s : State) (ws : List (Word × Byte)) :
    (s.memWrites ws).busRead serialOut = s.busRead serialOut := by
  induction ws generalizing s with
  | nil => rfl
  | cons w ws ih => exact (ih (s.memWrite w.1 w.2)).trans (s.busRead_serialOut_memWrite w.1 w.2)

theorem State.outq_prefix_memWrites (s : State) (ws : List (Word × Byte)) : s.outq <+: (s.memWrites ws).outq := by
  induction ws generalizing s with
  | nil => exact List.prefix_rfl
  | cons w ws ih =>
    refine List.IsPrefix.trans ?_ (ih (s.memWrite w.1 w.2))
    rw [State.memWrite_eq]
    exact s.outqAfter_prefix w.1 w.2

/-- The bus reads after a move what it reads after the move's writes. -/
theorem Moves.busRead_eq {w : Written} {addrs : List Word} {s t : State} (h : Moves w addrs s t) {ws : List (Word × Byte)}
    (hstores : (s.memWrites ws).SameStores t) (addr : Word) : t.busRead addr = (s.memWrites ws).busRead addr := by
  obtain ⟨hbus, hparams⟩ := s.memWrites_bus_params ws
  obtain ⟨hmem, hplain, -⟩ := hstores
  exact State.busRead_congr hmem hplain (h.bus_eq.trans hbus.symm) (h.params_eq.trans hparams.symm) addr

/-- Settles O59: the stores after an instruction are those after its writes, and those are at the listed addresses. -/
theorem memoryFrame : Obligations.MemoryFrame := by
  intro i s t hexec
  have hmoves := exec_moves hexec
  obtain ⟨ws, haddrs, hstores⟩ := hmoves.writes
  obtain ⟨hmem, hplain, houtq⟩ := hstores
  refine ⟨fun addr hnot => ?other, ?port, fun hnone => ?none⟩
  case other =>
    obtain ⟨hbus', hmem', hplain'⟩ := s.memWrites_reads_of_notMem (haddrs ▸ hnot)
    rw [hmoves.busRead_eq ⟨hmem, hplain, houtq⟩, hmem, hplain]
    exact ⟨hbus', hmem', hplain'⟩
  case port => exact (hmoves.busRead_eq ⟨hmem, hplain, houtq⟩ _).trans (s.busRead_serialOut_memWrites ws)
  case none =>
    obtain rfl : ws = [] := List.map_eq_nil_iff.mp (haddrs.trans hnone)
    exact ⟨hmem, hplain, houtq⟩

/-- Settles O60: the kept fields are no part of a move; the output queue after the writes begins with the one before. -/
theorem controlAndQueueFrame : Obligations.ControlAndQueueFrame := by
  intro i s t hexec
  have hmoves := exec_moves hexec
  obtain ⟨ws, -, -, -, houtq⟩ := hmoves.writes
  exact ⟨hmoves.irqPending_eq, hmoves.nmiPending_eq, hmoves.paused_eq, hmoves.bus_eq, hmoves.params_eq, hmoves.freqHz_eq,
    hmoves.debug_eq, fun hrow => hmoves.halted_eq (beq_eq_false_iff_ne.mpr hrow), hmoves.inq,
    houtq ▸ s.outq_prefix_memWrites ws⟩

/-! ### What a step does not look at -/

section
variable (k hz : Nat) (on : Bool) (s : State)

theorem State.fetchByte_tweak :
    (s.tweak k hz on).fetchByte = (s.fetchByte.1, s.fetchByte.2.tweak k hz on) := by
  refine Prod.ext ?_ ?_
  · rw [State.fetchByte_fst, State.fetchByte_fst]
    rfl
  · rw [State.fetchByte_snd, State.fetchByte_snd]
    rfl

theorem State.fetch_tweak : (s.tweak k hz on).fetch = (s.fetch.1, s.fetch.2.tweak k hz on) := by
  simp only [State.fetch, State.fetchByte_tweak]
  rcases decodeRow s.fetchByte.1 with _ | (i | f | f) <;> rfl

theorem State.interruptSample_tweak :
    (s.tweak k hz on).interruptSample = s.interruptSample.map (State.tweak k hz on) := by
  have hnmi : (s.tweak k hz on).nmiPending = s.nmiPending := rfl
  have hirq : (s.tweak k hz on).irqPending = s.irqPending := rfl
  have hflags : (s.tweak k hz on).flags = s.flags := rfl
  rw [State.interruptSample, State.interruptSample, hnmi, hirq, hflags]
  cases s.nmiPending
  · cases s.irqPending && !s.flags.i
    · rfl
    · exact congrArg some
        (State.intEntry_tweak k hz on { s with nmiPending := false, irqPending := false } vectorIrq 0x20 (by decide) (by decide))
  · exact congrArg some (State.intEntry_tweak k hz on { s with nmiPending := false } vectorNmi 0x20 (by decide) (by decide))

theorem stepOnce_tweak : stepOnce (s.tweak k hz on) = onNext (State.tweak k hz on) (stepOnce s) := by
  rw [stepOnce, stepOnce, State.interruptSample_tweak]
  cases s.interruptSample with
  | some entered => exact finish_tweak k hz on entered 7
  | none =>
    simp only [Option.map_none, State.fetch_tweak]
    exact (exec_lawful s.fetch.1).unobserved k hz on s.fetch.2

end

/-- Settles O56: a stopped and a waiting core by the two bits, a running one by the fetch, the entries and the meanings. -/
theorem cyclesDebugAndFrequencyUnobserved : Obligations.CyclesDebugAndFrequencyUnobserved := by
  intro s k hz on
  change step (s.tweak k hz on) = onNext (State.tweak k hz on) (step s)
  have hhalted : (s.tweak k hz on).halted = s.halted := rfl
  have hpaused : (s.tweak k hz on).paused = s.paused := rfl
  rw [step, step, hhalted, hpaused]
  cases s.halted
  · cases s.paused
    · exact stepOnce_tweak k hz on s
    · rfl
  · rfl

end Sys2Proof.Machine

/-! PROOFS. The invariant (10_state.md section 5, 20_memory.md section 4, 00_scope.md section 4): every bus and CPU write keeps
it, so every move does, so every step and every host action does, and every schedule of them. -/

namespace Sys2Proof.Machine

open Sys2Proof.Spec

/-! ### Writes and moves -/

/-- A state with the same stores and configuration and no longer queues meets the invariant too. -/
theorem State.Inv.of_same {s t : State} (hs : s.Inv) (hmem : t.mem = s.mem := by rfl) (hplain : t.plain = s.plain := by rfl)
    (hinq : t.inq.length ≤ s.inq.length := by exact le_rfl) (houtq : t.outq.length ≤ s.outq.length := by exact le_rfl)
    (hbus : t.bus = s.bus := by rfl) (hparams : t.params = s.params := by rfl) (hfreq : t.freqHz = s.freqHz := by rfl) :
    t.Inv where
  mem_wf := hmem ▸ hs.mem_wf
  plain_wf := hplain ▸ hs.plain_wf
  inq_le := hinq.trans hs.inq_le
  outq_le := houtq.trans hs.outq_le
  bus_le := hbus ▸ hs.bus_le
  bus_wf := hbus ▸ hs.bus_wf
  freq_pos := hfreq ▸ hs.freq_pos
  plain_size := hparams ▸ hs.plain_size

theorem State.Inv.busWrite {s : State} (hs : s.Inv) (addr : Word) (b : Byte) : (s.busWrite addr b).Inv := by
  cases hroute : route s.bus addr with
  | none =>
    rw [s.busWrite_of_unmapped b hroute]
    exact hs
  | some device =>
    cases device with
    | monitoredRam =>
      rw [s.busWrite_of_monitoredRam b hroute]
      exact { hs with mem_wf := Memory.wf_write hs.mem_wf b addr.isLt, outq_le := enqueueAll_length hs.outq_le _ }
    | plainRam =>
      rw [s.busWrite_of_plainRam b hroute, State.plainWrite]
      split
      · exact { hs with plain_wf := Memory.wf_write hs.plain_wf b addr.isLt }
      · exact hs

theorem State.Inv.busWriteBytes {s : State} (hs : s.Inv) (addr : Word) (bytes : List Byte) : (s.busWriteBytes addr bytes).Inv := by
  induction bytes generalizing s addr with
  | nil => exact hs
  | cons b bs ih => exact ih (hs.busWrite addr b) (addr + 1)

theorem State.Inv.memWrite {s : State} (hs : s.Inv) (addr : Word) (b : Byte) : (s.memWrite addr b).Inv := by
  by_cases hport : addr = serialOut
  · rw [hport, State.memWrite_serialOut]
    exact { hs with outq_le := enqueue_length hs.outq_le b }
  · rw [s.memWrite_of_ne b hport]
    exact hs.busWrite addr b

theorem State.Inv.memWrites {s : State} (hs : s.Inv) (ws : List (Word × Byte)) : (s.memWrites ws).Inv := by
  induction ws generalizing s with
  | nil => exact hs
  | cons w ws ih => exact ih (hs.memWrite w.1 w.2)

/-- A move has the stores and the output queue of its writes, and a shorter input queue. -/
theorem Moves.inv {w : Written} {addrs : List Word} {s t : State} (h : Moves w addrs s t) (hs : s.Inv) : t.Inv := by
  obtain ⟨ws, -, hmem, hplain, houtq⟩ := h.writes
  have hwrites := hs.memWrites ws
  exact {
    mem_wf := hmem ▸ hwrites.mem_wf
    plain_wf := hplain ▸ hwrites.plain_wf
    inq_le := h.inq.length_le.trans hs.inq_le
    outq_le := houtq ▸ hwrites.outq_le
    bus_le := h.bus_eq ▸ hs.bus_le
    bus_wf := h.bus_eq ▸ hs.bus_wf
    freq_pos := h.freqHz_eq ▸ hs.freq_pos
    plain_size := h.params_eq ▸ hs.plain_size }

/-! ### Steps -/

theorem State.Inv.fetch {s : State} (hs : s.Inv) : s.fetch.2.Inv := by
  obtain ⟨pc, q, hq, hfetch⟩ := s.fetch_snd
  rw [hfetch]
  exact hs.of_same (hinq := hq.length_le)

theorem State.Inv.intEntry {s : State} (hs : s.Inv) {vector : Word} (bits : Byte) (h0 : vector ≠ serialIn)
    (h1 : vector + 1 ≠ serialIn) : (s.intEntry vector bits).Inv :=
  (s.intEntry_moves s.pc vector bits h0 h1).inv hs

theorem State.Inv.interruptSample {s t : State} (hs : s.Inv) (h : s.interruptSample = some t) : t.Inv := by
  rcases s.interruptSample_cases with ⟨-, hsample⟩ | ⟨-, -, -, hsample⟩ | ⟨-, -, hsample⟩
  · cases hsample.symm.trans h
    exact State.Inv.intEntry hs.of_same 0x20 (by decide) (by decide)
  · cases hsample.symm.trans h
    exact State.Inv.intEntry hs.of_same 0x20 (by decide) (by decide)
  · cases hsample.symm.trans h

/-- A step is an interrupt entry or the meaning of a fetched instruction. -/
theorem State.Inv.stepOnce {s t : State} (hs : s.Inv) (h : stepOnce s = .next t) : t.Inv := by
  rw [Machine.stepOnce] at h
  cases hsample : s.interruptSample with
  | some u =>
    rw [hsample] at h
    cases h
    exact (hs.interruptSample hsample).of_same
  | none =>
    rw [hsample] at h
    exact (exec_moves h).inv hs.fetch

/-- Settles O52: a step of the run loop is none, one that changes nothing, or a step of R69. -/
theorem stepKeepsInvariant : Obligations.StepKeepsInvariant := by
  intro s t hs hstep
  rw [step] at hstep
  split at hstep
  · cases hstep
  · split at hstep
    · cases hstep
      exact hs
    · exact hs.stepOnce hstep

/-! ### Host actions and schedules -/

theorem State.Inv.loadProgram {s : State} (hs : s.Inv) (bytes : List Byte) (base : Word) : (s.loadProgram bytes base).1.Inv := by
  rw [State.loadProgram]
  split
  · exact hs
  · split
    · exact hs
    · exact ((hs.busWriteBytes base bytes).busWrite _ _).busWrite _ _

theorem State.Inv.hostStep {s : State} (hs : s.Inv) {r : State × HostReply} (h : hostStep s = .next r) : r.1.Inv := by
  rw [Machine.hostStep] at h
  split at h
  · cases h
  · split at h
    next t hstep =>
      cases h
      exact hs.stepOnce hstep
    next => cases h
    next => cases h

/-- Every action of the host that has an effect keeps the invariant. -/
theorem State.Inv.hostAct {s : State} (hs : s.Inv) {act : HostAction} {r : State × HostReply}
    (h : hostAct act s = .next r) : r.1.Inv := by
  cases act
  case step => exact hs.hostStep h
  case run | pause | resume | reset | injectIrq | injectNmi | readByte | setDebug => cases h; exact hs.of_same
  case loadProgram bytes base => cases h; exact hs.loadProgram bytes base
  case writeByte addr b => cases h; exact hs.busWrite addr b
  case popOutput => cases h; exact hs.of_same (houtq := by simp [dequeue])
  all_goals
    rw [Machine.hostAct] at h
    split at h
  case setPc.isTrue => cases h; exact hs.of_same
  case setPc.isFalse => cases h
  case setFrequency.isTrue => cases h
  case setFrequency.isFalse hz hpos => cases h; exact { hs with freq_pos := Nat.pos_of_ne_zero hpos }
  case pushInput.isTrue b hroom => cases h; exact { hs with inq_le := enqueue_length hs.inq_le b }
  case pushInput.isFalse => cases h; exact hs
  case snapshotRegisters.isTrue => cases h; exact hs
  case snapshotRegisters.isFalse => cases h

theorem State.Inv.eventAfter {s : State} (hs : s.Inv) (e : Event) : (eventAfter e s).Inv := by
  cases e with
  | runLoop =>
    rw [Machine.eventAfter]
    split
    next t hstep => exact stepKeepsInvariant s t hs hstep
    next => exact hs
    next => exact hs
  | host act =>
    rw [Machine.eventAfter]
    split
    next r hact => exact hs.hostAct hact
    next => exact hs
    next => exact hs

/-- Settles O53: by induction on the schedule, with any state that meets the invariant. -/
theorem scheduleKeepsInvariant : Obligations.ScheduleKeepsInvariant := by
  intro es
  induction es with
  | nil => exact fun s hs => hs
  | cons e es ih => exact fun s hs => ih (eventAfter e s) (hs.eventAfter e)

/-- Settles O54: each limit at the values of reset; the plain RAM's size is the sixteenth power of two. -/
theorem resetMeetsInvariant : Obligations.ResetMeetsInvariant where
  mem_wf := State.reset_stores_wf.1
  plain_wf := State.reset_stores_wf.2
  inq_le := Nat.zero_le _
  outq_le := Nat.zero_le _
  bus_le := by decide
  bus_wf := by decide
  freq_pos := by decide
  plain_size := ⟨16, rfl⟩

end Sys2Proof.Machine

/-! PROOFS. Binary and decimal arithmetic (42_arithmetic.md sections 1 and 2, R90 to R95). The sums and differences are read as
numbers once, the overflow formula by the sign bits of its bytes, and the decimal sequences by the two digits of each byte. -/

namespace Sys2Proof.Machine

open Sys2Proof.Spec

/-! ### The binary sum (R90) -/

theorem addBin_r_toNat (a m : Byte) (c : Bool) : (addBin a m c).r.toNat = (a.toNat + m.toNat + c.toNat) % 0x100 :=
  BitVec.toNat_ofNat _ _

theorem addBin_carry (a m : Byte) (c : Bool) : (addBin a m c).carry = decide (0x100 ≤ a.toNat + m.toNat + c.toNat) := rfl

theorem addBin_exact (a m : Byte) (c : Bool) :
    (addBin a m c).r.toNat + 256 * (addBin a m c).carry.toNat = a.toNat + m.toNat + c.toNat := by
  have ha : a.toNat < 256 := a.isLt
  have hm : m.toNat < 256 := m.isLt
  have hc : c.toNat ≤ 1 := c.toNat_le
  rw [addBin_r_toNat, addBin_carry]
  by_cases hcarry : 0x100 ≤ a.toNat + m.toNat + c.toNat
  · rw [decide_eq_true hcarry, Bool.toNat_true]
    omega
  · rw [decide_eq_false hcarry, Bool.toNat_false]
    omega

theorem byte_not_toNat (m : Byte) : (~~~m).toNat = 255 - m.toNat := by
  rw [BitVec.toNat_not]

/-- Masking with 0x80 asks for the sign bit. -/
theorem and_0x80_ne_zero (v : Byte) : (v &&& 0x80 != 0) = v.msb := by
  revert v
  decide

theorem addBin_ovf (a m : Byte) (c : Bool) :
    (addBin a m c).ovf = (!(a.msb ^^ m.msb) && (a.msb ^^ (addBin a m c).r.msb)) := by
  have hformula : (addBin a m c).ovf = ((~~~(a ^^^ m)) &&& (a ^^^ (addBin a m c).r) &&& 0x80 != 0) := rfl
  rw [hformula, and_0x80_ne_zero, BitVec.msb_and, BitVec.msb_not, BitVec.msb_xor, BitVec.msb_xor]
  simp

/-- The overflow of R90: equal signs of the operands and another sign of the sum, so a signed sum out of range. -/
theorem addBin_ovf_iff (a m : Byte) (c : Bool) :
    (addBin a m c).ovf = true ↔ a.toInt + m.toInt + c.toNat < -128 ∨ 127 < a.toInt + m.toInt + c.toNat := by
  have ha : a.toNat < 256 := a.isLt
  have hm : m.toNat < 256 := m.isLt
  have hc : c.toNat ≤ 1 := c.toNat_le
  have hr := addBin_r_toNat a m c
  rw [addBin_ovf, BitVec.msb_eq_decide, BitVec.msb_eq_decide, BitVec.msb_eq_decide, hr, BitVec.toInt_eq_toNat_cond,
    BitVec.toInt_eq_toNat_cond]
  by_cases hna : 128 ≤ a.toNat <;> by_cases hnm : 128 ≤ m.toNat <;> simp [hna, hnm] <;> omega

theorem addBin_not_ovf (a m : Byte) (c : Bool) :
    (addBin a (~~~m) c).ovf = ((a ^^^ m) &&& (a ^^^ (addBin a (~~~m) c).r) &&& 0x80 != 0) := by
  have hxor : ~~~(a ^^^ ~~~m) = a ^^^ m := by
    ext i
    simp
  have hformula : (addBin a (~~~m) c).ovf =
      ((~~~(a ^^^ ~~~m)) &&& (a ^^^ (addBin a (~~~m) c).r) &&& 0x80 != 0) := rfl
  rw [hformula, hxor]

/-- Settles O22: byte and carry as the exact sum, the overflow by the three sign bits, and the operand's complement. -/
theorem binarySumIsExact : Obligations.BinarySumIsExact := by
  intro a m c
  refine ⟨addBin_r_toNat a m c, addBin_exact a m c, rfl, addBin_ovf_iff a m c, ?_, addBin_not_ovf a m c⟩
  rw [addBin_exact, byte_not_toNat]

/-! ### Decimal digits (R91, R92) -/

/-- A byte of two decimal digits. -/
theorem bcd_digits {b : Byte} (h : isBcd b = true) :
    ∃ tens ones : Nat, tens ≤ 9 ∧ ones ≤ 9 ∧ b.toNat = 16 * tens + ones ∧ bcdValue b = 10 * tens + ones := by
  rw [isBcd, Bool.and_eq_true, decide_eq_true_iff, decide_eq_true_iff] at h
  obtain ⟨hones, htens⟩ := h
  exact ⟨b.toNat / 16, b.toNat % 16, htens, hones, (Nat.div_add_mod _ _).symm, by rw [bcdValue, Nat.mul_comm]⟩

/-- The byte with the digits `tens` and `ones`. -/
theorem bcd_of_toNat {b : Byte} {tens ones : Nat} (htens : tens ≤ 9) (hones : ones ≤ 9) (hb : b.toNat = 16 * tens + ones) :
    isBcd b = true ∧ bcdValue b = 10 * tens + ones := by
  have hdiv : b.toNat / 16 = tens := by omega
  have hmod : b.toNat % 16 = ones := by omega
  rw [isBcd, bcdValue, hdiv, hmod]
  simp only [htens, hones, decide_true, Bool.and_true, true_and]
  omega

/-- A column of a decimal addition: the digit of the sum and the carry out. -/
theorem add_column {x y c : Nat} (hx : x ≤ 9) (hy : y ≤ 9) (hc : c ≤ 1) :
    ∃ digit carry : Nat, digit ≤ 9 ∧ carry ≤ 1 ∧ x + y + c = digit + 10 * carry :=
  ⟨(x + y + c) % 10, (x + y + c) / 10, by omega, by omega, by omega⟩

/-- A column of a decimal subtraction: the digit of the difference and the borrow out. -/
theorem sub_column {x y b : Nat} (hx : x ≤ 9) (hy : y ≤ 9) (hb : b ≤ 1) :
    ∃ digit borrow : Nat, digit ≤ 9 ∧ borrow ≤ 1 ∧ x + 10 * borrow = y + b + digit := by
  by_cases h : y + b ≤ x
  · exact ⟨x - (y + b), 0, by omega, by omega, by omega⟩
  · exact ⟨x + 10 - (y + b), 1, by omega, by omega, by omega⟩

section
variable {a m : Byte} {ta oa tm om ones tens : Nat} {c : Bool}

theorem lowDigit_of_digits (hoa : oa ≤ 9) (ha : a.toNat = 16 * ta + oa) : lowDigit a = oa := by
  rw [lowDigit]
  omega

theorem highPart_of_digits (hoa : oa ≤ 9) (ha : a.toNat = 16 * ta + oa) : highPart a = 16 * ta := by
  rw [highPart]
  omega

/-- The low nibble of `DecAdd` is the digit of the ones' column, with a half-carry of 0x10 for its carry. -/
theorem decAddLow_of_column {carry : Nat} (hla : lowDigit a = oa) (hlm : lowDigit m = om) (hones : ones ≤ 9)
    (hcarry : carry ≤ 1) (hcolumn : oa + om + c.toNat = ones + 10 * carry) : decAddLow a m c = ones + 16 * carry := by
  simp only [decAddLow, hla, hlm, hcolumn]
  split <;> omega

/-- `DecAdd` adds the columns of the ones and of the tens; its carry is that of the tens. -/
theorem decAdd_of_columns {carry carryOut : Nat} (hla : lowDigit a = oa) (hlm : lowDigit m = om) (hha : highPart a = 16 * ta)
    (hhm : highPart m = 16 * tm) (hones : ones ≤ 9) (htens : tens ≤ 9) (hcarry : carry ≤ 1) (hout : carryOut ≤ 1)
    (hcolumn : oa + om + c.toNat = ones + 10 * carry) (hcolumn' : ta + tm + carry = tens + 10 * carryOut) :
    (decAdd a m c).1.toNat = 16 * tens + ones ∧ ((decAdd a m c).2 = true ↔ carryOut = 1) := by
  have hsum : 16 * ta + 16 * tm + (ones + 16 * carry) = 16 * tens + ones + 160 * carryOut := by omega
  simp only [decAdd, hha, hhm, decAddLow_of_column hla hlm hones hcarry hcolumn, hsum, BitVec.toNat_ofNat,
    decide_eq_true_iff]
  obtain rfl | rfl := Nat.le_one_iff_eq_zero_or_eq_one.mp hout
  · rw [if_neg (by omega)]
    omega
  · rw [if_pos (by omega)]
    omega

/-- The low nibble of `DecSub` is the digit of the ones' column, with a half-borrow of 0x10 for its borrow. -/
theorem decSubLow_of_column {borrow : Nat} (hla : lowDigit a = oa) (hlm : lowDigit m = om) (hones : ones ≤ 9)
    (hborrow : borrow ≤ 1) (hcolumn : oa + 10 * borrow = om + (1 - c.toNat) + ones) :
    decSubLow a m c = (ones : Int) - 16 * borrow := by
  have hc : c.toNat ≤ 1 := c.toNat_le
  have hdiff : (oa : Int) - om + c.toNat - 1 = ones - 10 * borrow := by omega
  simp only [decSubLow, hla, hlm, hdiff]
  split <;> omega

/-- `DecSub` subtracts the columns of the ones and of the tens. -/
theorem decSub_of_columns {borrow borrowOut : Nat} (hla : lowDigit a = oa) (hlm : lowDigit m = om)
    (hha : highPart a = 16 * ta) (hhm : highPart m = 16 * tm) (hones : ones ≤ 9) (htens : tens ≤ 9) (hborrow : borrow ≤ 1)
    (hout : borrowOut ≤ 1) (hcolumn : oa + 10 * borrow = om + (1 - c.toNat) + ones)
    (hcolumn' : ta + 10 * borrowOut = tm + borrow + tens) : (decSub a m c).toNat = 16 * tens + ones := by
  have hsum : ((16 * ta : Nat) : Int) - ((16 * tm : Nat) : Int) + ((ones : Int) - 16 * borrow) =
      16 * tens + ones - 160 * borrowOut := by omega
  simp only [decSub, hha, hhm, decSubLow_of_column hla hlm hones hborrow hcolumn, hsum, BitVec.toNat_ofInt]
  obtain rfl | rfl := Nat.le_one_iff_eq_zero_or_eq_one.mp hout
  · rw [if_neg (by omega)]
    omega
  · rw [if_pos (by omega)]
    omega

end

/-- Settles O23: column by column, the digits of the decimal sum and the carry out of the tens. -/
theorem decimalSumOfDigits : Obligations.DecimalSumOfDigits := by
  intro a m c ha hm
  obtain ⟨ta, oa, hta, hoa, hanat, haval⟩ := bcd_digits ha
  obtain ⟨tm, om, htm, hom, hmnat, hmval⟩ := bcd_digits hm
  obtain ⟨ones, carry, hones, hcarry, hcolumn⟩ := add_column hoa hom c.toNat_le
  obtain ⟨tens, carryOut, htens, hout, hcolumn'⟩ := add_column hta htm hcarry
  obtain ⟨hsum, hcarryOut⟩ := decAdd_of_columns (lowDigit_of_digits hoa hanat) (lowDigit_of_digits hom hmnat)
    (highPart_of_digits hoa hanat) (highPart_of_digits hom hmnat) hones htens hcarry hout hcolumn hcolumn'
  obtain ⟨hbcd, hval⟩ := bcd_of_toNat htens hones hsum
  have htotal : 10 * ta + oa + (10 * tm + om) + c.toNat = 10 * tens + ones + 100 * carryOut := by omega
  rw [hval, haval, hmval, htotal, hcarryOut]
  refine ⟨hbcd, ?_, ?_⟩ <;> omega

/-- In numbers: the decimal difference from its columns, and that bytes of decimal digits compare as their values. -/
theorem decimal_difference_of_columns {ta oa tm om c ones tens borrow borrowOut : Nat} (hoa : oa ≤ 9) (hom : om ≤ 9) (htm : tm ≤ 9)
    (hc : c ≤ 1) (hones : ones ≤ 9) (htens : tens ≤ 9) (hcolumn : oa + 10 * borrow = om + (1 - c) + ones)
    (hcolumn' : ta + 10 * borrowOut = tm + borrow + tens) :
    ((10 * tens + ones : Nat) : Int) = (((10 * ta + oa : Nat) : Int) - ((10 * tm + om : Nat) : Int) - (1 - c)) % 100 ∧
      (0x100 ≤ 16 * ta + oa + (255 - (16 * tm + om)) + c ↔
        (0 : Int) ≤ ((10 * ta + oa : Nat) : Int) - ((10 * tm + om : Nat) : Int) - (1 - c)) := by
  have htotal : ((10 * ta + oa : Nat) : Int) - ((10 * tm + om : Nat) : Int) - (1 - c) = 10 * tens + ones - 100 * borrowOut := by
    omega
  rw [htotal]
  constructor <;> omega

/-- Settles O24: column by column, the digits of the decimal difference; the borrow out of the tens is that of the bytes. -/
theorem decimalDifferenceOfDigits : Obligations.DecimalDifferenceOfDigits := by
  intro a m c ha hm
  have hc : c.toNat ≤ 1 := c.toNat_le
  obtain ⟨ta, oa, hta, hoa, hanat, haval⟩ := bcd_digits ha
  obtain ⟨tm, om, htm, hom, hmnat, hmval⟩ := bcd_digits hm
  obtain ⟨ones, borrow, hones, hborrow, hcolumn⟩ := sub_column hoa hom (Nat.sub_le 1 c.toNat)
  obtain ⟨tens, borrowOut, htens, hout, hcolumn'⟩ := sub_column hta htm hborrow
  have hdiff := decSub_of_columns (lowDigit_of_digits hoa hanat) (lowDigit_of_digits hom hmnat)
    (highPart_of_digits hoa hanat) (highPart_of_digits hom hmnat) hones htens hborrow hout hcolumn hcolumn'
  obtain ⟨hbcd, hval⟩ := bcd_of_toNat htens hones hdiff
  rw [hval, haval, hmval, addBin_carry, byte_not_toNat, decide_eq_true_iff, hanat, hmnat]
  exact ⟨hbcd, decimal_difference_of_columns hoa hom htm hc hones htens hcolumn hcolumn'⟩

/-! ### The sequences with their masks, and the parameters (R91, R92, D7) -/

theorem and_0x0F (n : Nat) : n &&& 0x0F = n % 0x10 := Nat.and_two_pow_sub_one_eq_mod n 4

theorem byte_and_0xF0 (b : Byte) : b.toNat &&& 0xF0 = highPart b := by
  revert b
  decide

theorem nmosSum_eq_decAdd (a m : Byte) (c : Bool) : nmosSum a m c = decAdd a m c := by
  simp only [nmosSum, and_0x0F, byte_and_0xF0]
  rfl

theorem nmosDifference_eq_decSub (a m : Byte) (c : Bool) : nmosDifference a m c = decSub a m c := by
  simp only [nmosDifference, and_0x0F, byte_and_0xF0]
  rfl

/-- Settles O27: by the parameter, and by the digits where it is not the default; masks and digits are the same numbers. -/
theorem decimalParameters : Obligations.DecimalParameters := by
  intro p a m c
  rw [nmosSum_eq_decAdd, nmosDifference_eq_decSub, decimalAdc, decimalSbc]
  cases p.bcdInvalid with
  | nmosSequence => simp
  | other => simp

/-! ### ADC and SBC (R93 to R95) -/

/-- V in decimal mode is the binary overflow, or the free value under another DECIMAL_V (R93). -/
theorem decimalAdcV_eq (p : Params) (a m : Byte) (c : Bool) :
    decimalAdcV p a m c = if p.decimalV == .other then Config.decimalVAdc a m c else (addBin a m c).ovf := by
  rw [decimalAdcV]
  cases p.decimalV <;> rfl

theorem decimalSbcV_eq (p : Params) (a m : Byte) (c : Bool) :
    decimalSbcV p a m c = if p.decimalV == .other then Config.decimalVSbc a m c else (addBin a (~~~m) c).ovf := by
  rw [decimalSbcV]
  cases p.decimalV <;> rfl

/-- Setting C and V commutes with Z and N of the binary sum. -/
theorem adcEffect_eq (p : Params) (f : Flags) (a m : Byte) :
    adcEffect p f a m =
      (let sum := a.toNat + m.toNat + f.c.toNat
       let bin := BitVec.ofNat 8 sum
       { result := if f.d then (decimalAdc p a m f.c).1 else bin
         flags := { zn f bin with
           c := if f.d then (decimalAdc p a m f.c).2 else decide (0x100 ≤ sum)
           v := if f.d && p.decimalV == .other then Config.decimalVAdc a m f.c
             else (~~~(a ^^^ m)) &&& (a ^^^ bin) &&& 0x80 != 0 } }) := by
  obtain ⟨c, z, i, d, v, n⟩ := f
  cases d with
  | false => simp only [adcEffect, Flags.withZN_eq_zn]; rfl
  | true => simp only [adcEffect, Flags.withZN_eq_zn, decimalAdcV_eq]; rfl

/-- As for ADC, with the operand complemented. -/
theorem sbcEffect_eq (p : Params) (f : Flags) (a m : Byte) :
    sbcEffect p f a m =
      (let sum := a.toNat + (255 - m.toNat) + f.c.toNat
       let bin := BitVec.ofNat 8 sum
       { result := if f.d then decimalSbc p a m f.c else bin
         flags := { zn f bin with
           c := decide (0x100 ≤ sum)
           v := if f.d && p.decimalV == .other then Config.decimalVSbc a m f.c
             else (a ^^^ m) &&& (a ^^^ bin) &&& 0x80 != 0 } }) := by
  have hbin : (addBin a (~~~m) f.c).r = BitVec.ofNat 8 (a.toNat + (255 - m.toNat) + f.c.toNat) := by
    rw [← byte_not_toNat]
    rfl
  have hcarry : (addBin a (~~~m) f.c).carry = decide (0x100 ≤ a.toNat + (255 - m.toNat) + f.c.toNat) := by
    rw [addBin_carry, byte_not_toNat]
  rw [sbcEffect, hbin, hcarry, decimalSbcV_eq, addBin_not_ovf, hbin, Flags.withZN_eq_zn, Flags.withZN_eq_zn]
  obtain ⟨c, z, i, d, v, n⟩ := f
  cases d <;> rfl

theorem adcRows_runAs_adc (s : State) (v z : Byte) (a : Word) : (adcRows v z a).Forall (RunsAs s adc) :=
  ⟨⟨rfl, rfl⟩, ⟨rfl, rfl⟩, ⟨rfl, rfl⟩, ⟨rfl, rfl⟩, ⟨rfl, rfl⟩, ⟨rfl, rfl⟩, ⟨rfl, rfl⟩, ⟨rfl, rfl⟩⟩

theorem sbcRows_runAs_sbc (s : State) (v z : Byte) (a : Word) : (sbcRows v z a).Forall (RunsAs s sbc) :=
  ⟨⟨rfl, rfl⟩, ⟨rfl, rfl⟩, ⟨rfl, rfl⟩, ⟨rfl, rfl⟩, ⟨rfl, rfl⟩, ⟨rfl, rfl⟩, ⟨rfl, rfl⟩, ⟨rfl, rfl⟩, ⟨rfl, rfl⟩⟩

/-- Settles O25: every row runs the one ADC, whose effect on A and the flags is one equation. -/
theorem adcResult : Obligations.AdcResult := by
  intro s v z a
  refine (adcRows_runAs_adc s v z a).imp fun r ⟨hopcode, hexec⟩ => ⟨hopcode, hexec.trans ?_⟩
  rw [adc, readCycles_eq_add_pageCharge, adcEffect_eq]
  rfl

/-- Settles O26: every row, the one of 0xEB too, runs the one SBC. -/
theorem sbcResult : Obligations.SbcResult := by
  intro s v z a
  refine (sbcRows_runAs_sbc s v z a).imp fun r ⟨hopcode, hexec⟩ => ⟨hopcode, hexec.trans ?_⟩
  rw [sbc, readCycles_eq_add_pageCharge, sbcEffect_eq]
  rfl

end Sys2Proof.Machine

/-! PROOFS. Canonical memory, the stack under the default bus, and the addressing modes (20_memory.md sections 2, 5 and 7,
30_encoding.md section 3). -/

namespace Sys2Proof.Machine

open Sys2Proof.Spec

/-! ### Canonical memory -/

/-- Settles O6: the laws of a write, at the address and beside it. -/
theorem readAfterWrite : Obligations.ReadAfterWrite := by
  intro m a v hwf ha
  refine ⟨Memory.wf_write hwf v ha, ?_, fun b hb => Memory.read_write_of_ne m v hb⟩
  rw [Memory.read_write hwf, if_pos rfl]

theorem Memory.read_cons_same (k : Nat) (v : Byte) (m : Memory) : Memory.read ((k, v) :: m) k = v := if_pos rfl

theorem Memory.read_cons_of_ne {k a : Nat} (v : Byte) (m : Memory) (h : k ≠ a) : Memory.read ((k, v) :: m) a = m.read a :=
  if_neg h

/-- The lowest listed address of one of two canonical memories that read alike is not below the other's entries. -/
theorem Memory.le_of_read_eq {k lo : Nat} {v : Byte} {m m' : Memory} (hv : v ≠ Memory.unlisted)
    (hm' : Memory.wfFrom lo m' = true) (hread : Memory.read ((k, v) :: m) k = m'.read k) : lo ≤ k := by
  by_contra hlt
  rw [Memory.read_cons_same, Memory.read_below hm' (Nat.lt_of_not_le hlt)] at hread
  exact hv hread

theorem Memory.eq_of_read_eq {lo lo' : Nat} {m m' : Memory} (hm : Memory.wfFrom lo m = true) (hm' : Memory.wfFrom lo' m' = true)
    (hread : ∀ a, m.read a = m'.read a) : m = m' := by
  induction m generalizing lo lo' m' with
  | nil =>
    cases m' with
    | nil => rfl
    | cons c m' =>
      obtain ⟨k, v⟩ := c
      obtain ⟨-, -, hv, -⟩ := (Memory.wfFrom_cons lo' k v m').mp hm'
      exact absurd ((Memory.read_cons_same k v m').symm.trans (hread k).symm) hv
  | cons c m ih =>
    obtain ⟨k, v⟩ := c
    obtain ⟨-, -, hv, htail⟩ := (Memory.wfFrom_cons lo k v m).mp hm
    cases m' with
    | nil => exact absurd ((Memory.read_cons_same k v m).symm.trans (hread k)) hv
    | cons c' m' =>
      obtain ⟨k', v'⟩ := c'
      obtain ⟨-, hk', hv', htail'⟩ := (Memory.wfFrom_cons lo' k' v' m').mp hm'
      obtain ⟨-, hk, -, -⟩ := (Memory.wfFrom_cons lo k v m).mp hm
      have hle : k' ≤ k := Memory.le_of_read_eq hv ((Memory.wfFrom_cons k' k' v' m').mpr ⟨le_rfl, hk', hv', htail'⟩) (hread k)
      have hge : k ≤ k' :=
        Memory.le_of_read_eq hv' ((Memory.wfFrom_cons k k v m).mpr ⟨le_rfl, hk, hv, htail⟩) (hread k').symm
      obtain rfl : k = k' := le_antisymm hge hle
      have hvalue : v = v' := by simpa only [Memory.read_cons_same] using hread k
      have htails : m = m' := by
        refine ih htail htail' fun a => ?_
        by_cases ha : k = a
        · subst ha
          rw [Memory.read_below htail (Nat.lt_succ_self k), Memory.read_below htail' (Nat.lt_succ_self k)]
        · simpa only [Memory.read_cons_of_ne _ _ ha] using hread a
      rw [hvalue, htails]

/-- Settles O7: entry by entry; an address listed in one memory alone would read differently in the two. -/
theorem canonicalMemoryIsUnique : Obligations.CanonicalMemoryIsUnique := fun _ _ hm hm' hread =>
  Memory.eq_of_read_eq hm hm' hread

/-! ### The default bus and the stack (R32, R39) -/

theorem State.busRead_of_defaultBus {s : State} (h : s.bus = defaultBus) (addr : Word) : s.busRead addr = s.mem.read addr.toNat :=
  State.busRead_of_monitoredRam (h ▸ route_defaultBus addr)

theorem stackAddr_toNat (sp : Byte) : (stackAddr sp).toNat = 0x100 + sp.toNat := by
  revert sp
  decide

/-- Page 1 has no hook (R41). -/
theorem hookOutput_stackAddr (sp b : Byte) : hookOutput (stackAddr sp) b = [] := by
  have hpage : ∀ addr : Word, 0x200 ≤ addr.toNat → stackAddr sp ≠ addr := by
    intro addr haddr heq
    have hsp : sp.toNat < 256 := sp.isLt
    rw [← heq, stackAddr_toNat] at haddr
    omega
  exact hookOutput_of_no_hook b (hpage _ (by decide)) (hpage _ (by decide)) (hpage _ (by decide))

/-- A push under the default bus stores one byte in page 1 and moves SP down. -/
theorem State.push_of_defaultBus {s : State} (h : s.bus = defaultBus) (v : Byte) :
    s.push v = { s with mem := s.mem.write (0x100 + s.sp.toNat) v, sp := s.sp - 1 } := by
  have hroute : route s.bus (stackAddr s.sp) = some .monitoredRam := h ▸ route_defaultBus _
  rw [State.push, s.memWrite_of_ne v (stackAddr_ne_serialOut s.sp), s.busWrite_of_monitoredRam v hroute,
    State.monitoredWrite, hookOutput_stackAddr, stackAddr_toNat]
  rfl

theorem Memory.read_write_same {m : Memory} (hm : m.wf = true) (a : Nat) (v : Byte) : (m.write a v).read a = v := by
  rw [Memory.read_write hm, if_pos rfl]

/-- Settles O13: the pull reads the slot of the push, since SP is back at it. -/
theorem pullAfterPush : Obligations.PullAfterPush := by
  intro s v hbus hwf
  have hsp : s.sp - 1 + 1 = s.sp := BitVec.sub_add_cancel s.sp 1
  rw [State.push_of_defaultBus hbus, State.pull_eq]
  simp only [hsp]
  rw [State.busRead_of_defaultBus, stackAddr_toNat, Memory.read_write_same hwf]
  · rfl
  · exact hbus

/-! ### Addressing modes (R59 to R68) -/

/-- An indexed sum wraps inside the zero page. -/
theorem zext16_add_eq_ofNat (z i : Byte) : zext16 (z + i) = BitVec.ofNat 16 ((z.toNat + i.toNat) % 0x100) := by
  rw [zext16_eq_ofNat, BitVec.toNat_add]

/-- An indexed address wraps at 0x10000, and crosses a page when its high byte is another. -/
theorem indexed_eq (a : Word) (i : Byte) :
    indexed a i =
      ⟨BitVec.ofNat 16 ((a.toNat + i.toNat) % 0x10000), decide (a.toNat / 0x100 ≠ (a.toNat + i.toNat) % 0x10000 / 0x100)⟩ := by
  have hsum : (a + zext16 i).toNat = (a.toNat + i.toNat) % 0x10000 := by
    rw [BitVec.toNat_add, zext16, BitVec.toNat_setWidth_of_le (by decide)]
  have haddr : a + zext16 i = BitVec.ofNat 16 ((a.toNat + i.toNat) % 0x10000) := by
    rw [← hsum, BitVec.ofNat_toNat, BitVec.setWidth_eq]
  rw [indexed, pageDiffers_eq_decide, hsum, haddr]

/-- Settles O14: the operand byte, or its sum with an index register modulo 0x100. -/
theorem zeroPageModes : Obligations.ZeroPageModes := by
  intro s z
  simp only [MemOperand.resolve, zext16_add_eq_ofNat, zext16_eq_ofNat z, and_self]

/-- Settles O15: the operand word, or its indexed address. -/
theorem absoluteModes : Obligations.AbsoluteModes := by
  intro s a
  simp only [MemOperand.resolve, indexed_eq, and_self]

/-- Settles O16: the pointer of each mode is two bus reads in the zero page. -/
theorem indirectModes : Obligations.IndirectModes := by
  intro s z
  constructor
  · have hnext : zext16 (z + s.x + 1) = BitVec.ofNat 16 ((z.toNat + s.x.toNat + 1) % 0x100) := by
      rw [zext16_eq_ofNat, byte_succ_toNat, BitVec.toNat_add, Nat.mod_add_mod]
    simp only [MemOperand.resolve, State.readZP16_eq, wordOf_eq_word, hnext, zext16_add_eq_ofNat]
  · simp only [MemOperand.resolve, State.readZP16_eq, wordOf_eq_word, zext16_eq_ofNat, byte_succ_toNat, indexed_eq]

/-- Settles O17: an immediate makes no read; a memory operand is read once, after its mode's pointer. -/
theorem operandLoad : Obligations.OperandLoad := fun s v _ => ⟨Source.load_imm v s, rfl⟩

end Sys2Proof.Machine

/-! PROOFS. The step, the interrupts, reset and the host (30_encoding.md section 4, 60_exceptions.md, 70_reset_and_hazards.md). -/

namespace Sys2Proof.Machine

open Sys2Proof.Spec

/-! ### The byte P (R16, R17) -/

/-- The eight bits of P, from the lowest: the flags at their places, B clear and U set. -/
theorem Flags.toByte_bits (f : Flags) :
    f.toByte.getLsbD 0 = f.c ∧ f.toByte.getLsbD 1 = f.z ∧ f.toByte.getLsbD 2 = f.i ∧ f.toByte.getLsbD 3 = f.d ∧
      f.toByte.getLsbD 4 = false ∧ f.toByte.getLsbD 5 = true ∧ f.toByte.getLsbD 6 = f.v ∧ f.toByte.getLsbD 7 = f.n := by
  obtain ⟨c, z, i, d, v, n⟩ := f
  revert c z i d v n
  decide

/-- Settles O55: bit by bit. -/
theorem statusBitsHardwired : Obligations.StatusBitsHardwired := by
  intro s
  obtain ⟨h0, h1, h2, h3, h4, h5, h6, h7⟩ := s.flags.toByte_bits
  exact ⟨h4, h5, h0, h1, h2, h3, h6, h7⟩

/-- What an entry pushes of P gives the flags back, with either of the two status patterns (R140): they set B and U alone. -/
theorem Flags.ofByte_pushed (f : Flags) {bits : Byte} (hbits : bits = 0x20 ∨ bits = 0x30) :
    Flags.ofByte ((f.toByte &&& 0xCF) ||| bits) = f := by
  obtain ⟨c, z, i, d, v, n⟩ := f
  rcases hbits with rfl | rfl
  · revert c z i d v n
    decide
  · revert c z i d v n
    decide

/-! ### A return after an entry (R140, R145) -/

/-- The monitored RAM after the three pushes of an entry: PC high, PC low, `status`. -/
def State.frameMem (s : State) (status : Byte) : Memory :=
  ((s.mem.write (0x100 + s.sp.toNat) (hiByte s.pc)).write (0x100 + (s.sp - 1).toNat) (loByte s.pc)).write
    (0x100 + (s.sp - 1 - 1).toNat) status

theorem State.push_bus (s : State) (v : Byte) : (s.push v).bus = s.bus := by
  rw [State.push_eq]

theorem State.pushFrame_of_defaultBus {s : State} (h : s.bus = defaultBus) (bits : Byte) :
    s.pushFrame bits = { s with mem := s.frameMem ((s.status &&& 0xCF) ||| bits), sp := s.sp - 1 - 1 - 1 } := by
  rw [State.pushFrame, State.push16, State.push_of_defaultBus h, State.push_of_defaultBus, State.push_of_defaultBus]
  · rfl
  · exact h
  · exact (State.push_bus _ _).trans h

/-- The three slots of a frame are different, so each keeps its byte. -/
theorem State.frameMem_read {s : State} (hwf : s.mem.wf = true) (status : Byte) :
    (s.frameMem status).read (stackAddr (s.sp - 1 - 1)).toNat = status ∧
      (s.frameMem status).read (stackAddr (s.sp - 1)).toNat = loByte s.pc ∧
      (s.frameMem status).read (stackAddr s.sp).toNat = hiByte s.pc := by
  have hsp : s.sp.toNat < 256 := s.sp.isLt
  have h0 : 0x100 + s.sp.toNat ≠ 0x100 + (s.sp - 1).toNat := by bv_omega
  have h1 : 0x100 + s.sp.toNat ≠ 0x100 + (s.sp - 1 - 1).toNat := by bv_omega
  have h2 : 0x100 + (s.sp - 1).toNat ≠ 0x100 + (s.sp - 1 - 1).toNat := by bv_omega
  have hwf1 := Memory.wf_write hwf (hiByte s.pc) (a := 0x100 + s.sp.toNat) (by omega)
  have hwf2 := Memory.wf_write hwf1 (loByte s.pc) (a := 0x100 + (s.sp - 1).toNat) (by bv_omega)
  rw [stackAddr_toNat, stackAddr_toNat, stackAddr_toNat, State.frameMem]
  refine ⟨Memory.read_write_same hwf2 _ _, ?_, ?_⟩
  · rw [Memory.read_write_of_ne _ _ h2, Memory.read_write_same hwf1]
  · rw [Memory.read_write_of_ne _ _ h1, Memory.read_write_of_ne _ _ h0, Memory.read_write_same hwf]

/-- A return from an entry restores PC and SP, and takes the flags of the pushed status byte. -/
theorem State.intReturn_intEntry {s : State} (hbus : s.bus = defaultBus) (hwf : s.mem.wf = true) (vector : Word) (bits : Byte)
    (h0 : vector ≠ serialIn) (h1 : vector + 1 ≠ serialIn) :
    (s.intEntry vector bits).intReturn.pc = s.pc ∧ (s.intEntry vector bits).intReturn.sp = s.sp ∧
      (s.intEntry vector bits).intReturn.flags = Flags.ofByte ((s.status &&& 0xCF) ||| bits) := by
  have hback1 : s.sp - 1 - 1 - 1 + 1 = s.sp - 1 - 1 := BitVec.sub_add_cancel _ 1
  have hback2 : s.sp - 1 - 1 + 1 = s.sp - 1 := BitVec.sub_add_cancel _ 1
  have hback3 : s.sp - 1 + 1 = s.sp := BitVec.sub_add_cancel _ 1
  obtain ⟨hstatus, hlo, hhi⟩ := State.frameMem_read hwf ((s.status &&& 0xCF) ||| bits)
  have hbusEntry : (s.intEntry vector bits).bus = defaultBus := (s.intEntry_moves s.pc vector bits h0 h1).bus_eq.trans hbus
  have hentry : (s.intEntry vector bits).sp = s.sp - 1 - 1 - 1 ∧
      (s.intEntry vector bits).mem = s.frameMem ((s.status &&& 0xCF) ||| bits) := by
    rw [State.intEntry_eq s vector bits h0 h1, State.pushFrame_of_defaultBus hbus]
    exact ⟨rfl, rfl⟩
  obtain ⟨hsp, hmem⟩ := hentry
  rw [State.intReturn_eq, hsp, hback1, hback2, hback3, State.busRead_of_defaultBus hbusEntry,
    State.busRead_of_defaultBus hbusEntry, State.busRead_of_defaultBus hbusEntry, hmem, hstatus, hlo, hhi]
  exact ⟨wordOf_hiByte_loByte s.pc, rfl, rfl⟩

/-- Settles O43: the frame is read back from the three slots it was pushed to, at either vector. -/
theorem returnUndoesEntry : Obligations.ReturnUndoesEntry := by
  intro s bits hbus hwf
  have hreturn : ∀ vector : Word, vector ≠ serialIn → vector + 1 ≠ serialIn →
      (s.intEntry vector bits).intReturn.pc = s.pc ∧ (s.intEntry vector bits).intReturn.sp = s.sp ∧
        (bits = 0x20 ∨ bits = 0x30 → (s.intEntry vector bits).intReturn.flags = s.flags) := by
    intro vector h0 h1
    obtain ⟨hpc, hsp, hflags⟩ := State.intReturn_intEntry hbus hwf vector bits h0 h1
    exact ⟨hpc, hsp, fun hbits => hflags.trans (Flags.ofByte_pushed s.flags hbits)⟩
  exact ⟨hreturn vectorNmi (by decide) (by decide), hreturn vectorIrq (by decide) (by decide)⟩

/-! ### The step (R69, R137, R139) -/

/-- A running core with no interrupt due runs the fetched instruction. -/
theorem step_eq_exec {s : State} (hhalted : s.halted = false) (hpaused : s.paused = false) (hnmi : s.nmiPending = false)
    (hirq : s.irqPending = false ∨ s.flags.i = true) : step s = exec s.fetch.1 s.fetch.2 := by
  have hsample : s.interruptSample = none := by
    rcases s.interruptSample_cases with ⟨hnmi', -⟩ | ⟨-, hirq', hi, -⟩ | ⟨-, -, hsample⟩
    · rw [hnmi] at hnmi'
      cases hnmi'
    · rcases hirq with hirq | hirq
      · rw [hirq] at hirq'
        cases hirq'
      · rw [hirq] at hi
        cases hi
    · exact hsample
  simp [step, stepOnce, hhalted, hpaused, hsample]

/-- A running core takes a sampled interrupt as a step of 7 cycles of its own. -/
theorem step_eq_entry {s t : State} (hhalted : s.halted = false) (hpaused : s.paused = false)
    (hsample : s.interruptSample = some t) : step s = done 7 t := by
  simp only [step, stepOnce, hhalted, hpaused, hsample]
  rfl

/-- Settles O42: NMI before IRQ by the sampling; an entry and a masked step move no latch but the one served. -/
theorem interruptSampling : Obligations.InterruptSampling := by
  intro s hhalted hpaused
  have hnmi : s.nmiPending = true →
      s.interruptSample = some (({ s with nmiPending := false } : State).intEntry vectorNmi 0x20) := fun h => by
    rw [State.interruptSample, h]
    rfl
  refine ⟨fun h => ?nmi, fun hclear hirq hi => ?irq, fun hirq hmasked t hstep => ?latched⟩
  case nmi =>
    rw [step_eq_entry hhalted hpaused (hnmi h), State.intEntry_vectorNmi]
    rfl
  case irq =>
    have hsample : s.interruptSample = some (({ s with irqPending := false } : State).intEntry vectorIrq 0x20) := by
      rw [State.interruptSample, hclear, hirq, hi]
      rfl
    rw [step_eq_entry hhalted hpaused hsample, State.intEntry_vectorIrq]
    rfl
  case latched =>
    cases hlatch : s.nmiPending with
    | true =>
      rw [step_eq_entry hhalted hpaused (hnmi hlatch)] at hstep
      cases hstep
      exact (State.intEntry_moves { s with nmiPending := false } s.pc vectorNmi 0x20 (by decide) (by decide)).irqPending_eq.trans
        hirq
    | false =>
      have hi : s.flags.i = true := hmasked.resolve_left (by rw [hlatch]; exact Bool.false_ne_true)
      obtain ⟨pc, q, -, hfetch⟩ := s.fetch_snd
      rw [step_eq_exec hhalted hpaused hlatch (.inr hi), hfetch] at hstep
      exact (exec_moves hstep).irqPending_eq.trans hirq

/-! ### The fetch by the row of its first byte (R51, R69) -/

section
variable {s : State}

theorem State.fetch_of_row_none (h : decodeRow s.fetchByte.1 = none) : s.fetch = (.invalid s.fetchByte.1, s.fetchByte.2) := by
  simp only [State.fetch, h]

theorem State.fetch_of_row_bare {i : Instr} (h : decodeRow s.fetchByte.1 = some (.bare i)) : s.fetch = (i, s.fetchByte.2) := by
  simp only [State.fetch, h]

theorem State.fetch_of_row_one {f : Byte → Instr} (h : decodeRow s.fetchByte.1 = some (.one f)) :
    s.fetch = (f s.fetchByte.2.fetchByte.1, s.fetchByte.2.fetchByte.2) := by
  simp only [State.fetch, h]

theorem State.fetch_of_row_two {f : Word → Instr} (h : decodeRow s.fetchByte.1 = some (.two f)) :
    s.fetch =
      (f (wordOf s.fetchByte.2.fetchByte.2.fetchByte.1 s.fetchByte.2.fetchByte.1),
        s.fetchByte.2.fetchByte.2.fetchByte.2) := by
  simp only [State.fetch, h]

end

/-- Settles O40: the meaning by its definition; the fetch of such a byte is that byte alone. -/
theorem invalidOpcodeHalts : Obligations.InvalidOpcodeHalts := by
  refine ⟨fun s op => rfl, fun s op hhalted hpaused hnmi hirq hread hinvalid => ?_⟩
  have hop : s.fetchByte.1 = op := hread
  have hrow : decodeRow s.fetchByte.1 = none := by
    rw [hop]
    exact Option.isNone_iff_eq_none.mp (Laws.EncodedLength.decodeRow_isNone_of_invalid op hinvalid)
  have hpc : s.pc + 1 - 1 = s.pc := BitVec.add_sub_cancel s.pc 1
  rw [step_eq_exec hhalted hpaused hnmi hirq, State.fetch_of_row_none hrow, hop, State.fetchByte_snd, State.memRead_eq]
  change Host.Outcome.next (State.raiseInvalidOpcode _ op) = _
  simp only [State.raiseInvalidOpcode, hpc]

/-- Reading three bytes at PC is fetching them one by one. -/
theorem readBytes_three_fst (s : State) :
    (readBytes s s.pc 3).1 =
      [s.fetchByte.1, s.fetchByte.2.fetchByte.1, s.fetchByte.2.fetchByte.2.fetchByte.1] := by
  simp only [readBytes, State.memRead_eq, State.fetchByte_fst, State.fetchByte_snd]
  rfl

/-- The state after one, two and three fetched bytes is that after as many reads, with PC past them. -/
theorem readBytes_snd_setPc (s : State) :
    (readBytes s s.pc 1).2.setPc (s.pc + 1) = s.fetchByte.2 ∧
      (readBytes s s.pc 2).2.setPc (s.pc + 2) = s.fetchByte.2.fetchByte.2 ∧
      (readBytes s s.pc 3).2.setPc (s.pc + 3) = s.fetchByte.2.fetchByte.2.fetchByte.2 := by
  have htwo : s.pc + 2 = s.pc + 1 + 1 := (BitVec.add_assoc s.pc 1 1).symm
  have hthree : s.pc + 3 = s.pc + 1 + 1 + 1 := by rw [← htwo]; exact (BitVec.add_assoc s.pc 2 1).symm
  simp only [readBytes, State.memRead_eq, State.fetchByte_snd, htwo, hthree]
  exact ⟨rfl, rfl, rfl⟩

/-- Settles O44: by the row of the first byte, the fetch reads the bytes of the instruction that the three bytes decode to. -/
theorem stepRunsDecodedInstruction : Obligations.StepRunsDecodedInstruction := by
  intro s i rest hhalted hpaused hnmi hirq hdecode
  obtain ⟨hone, htwo, hthree⟩ := readBytes_snd_setPc s
  have hwf := (encodeOfDecode _ _ _ hdecode).1
  refine ⟨hwf, (step_eq_exec hhalted hpaused hnmi hirq).trans ?_⟩
  change _ = exec i ((readBytes s s.pc (encode i).length).2.setPc (s.pc + BitVec.ofNat 16 (encode i).length))
  rw [readBytes_three_fst] at hdecode
  rcases decode_cases hdecode with ⟨op, hrow, rfl, hbytes⟩ | ⟨op, hrow, hbytes⟩ | ⟨op, f, b, hrow, rfl, hbytes⟩ |
    ⟨op, f, lo, hi, hrow, rfl, hbytes⟩
  · cases hbytes
    rw [State.fetch_of_row_none hrow]
    exact congrArg (exec _) hone.symm
  · cases hbytes
    rw [State.fetch_of_row_bare hrow, (encode_of_row_bare hrow).1]
    exact congrArg (exec i) hone.symm
  · cases hbytes
    rw [State.fetch_of_row_one hrow, (encode_of_row_one hrow _).1]
    exact congrArg (exec _) htwo.symm
  · cases hbytes
    rw [State.fetch_of_row_two hrow, (encode_of_row_two hrow _).1]
    exact congrArg (exec _) hthree.symm

/-! ### Reset and boot (R154 to R158) -/

/-- reset() reads the vector over the bus, which looks at nothing reset() writes. -/
theorem State.hostReset_hostReset (s : State) : s.hostReset.hostReset = s.hostReset := rfl

/-- Settles O47: every field of init() is written out; the reset state by evaluating reset() on it. -/
theorem resetStateIsResetOfInit : Obligations.ResetStateIsResetOfInit := by
  have hstatus : Flags.reset.toByte = 0x24 := by decide
  refine ⟨fun bus params mem plain => ?init, rfl, rfl, hstatus, State.hostReset_hostReset⟩
  case init => exact ⟨rfl, rfl, rfl, rfl, hstatus, rfl, rfl, rfl, rfl, rfl, rfl, rfl, rfl, rfl⟩

theorem State.busWrite_of_defaultBus {s : State} (h : s.bus = defaultBus) (addr : Word) (b : Byte) :
    s.busWrite addr b = s.monitoredWrite addr b :=
  s.busWrite_of_monitoredRam b (h ▸ route_defaultBus addr)

theorem State.busWriteBytes_mem_wf {s : State} (hbus : s.bus = defaultBus) (hwf : s.mem.wf = true) (addr : Word)
    (bytes : List Byte) : (s.busWriteBytes addr bytes).mem.wf = true := by
  induction bytes generalizing s addr with
  | nil => exact hwf
  | cons b bs ih =>
    rw [State.busWriteBytes, State.busWrite_of_defaultBus hbus]
    exact ih (s := s.monitoredWrite addr b) hbus (Memory.wf_write hwf b addr.isLt) (addr + 1)

/-- After the two bytes of the vector are written, reset() takes them as PC. -/
theorem State.hostReset_pc_of_vector {s : State} (hbus : s.bus = defaultBus) (hwf : s.mem.wf = true) (lo hi : Byte) :
    ((s.busWrite 0xFFFC lo).busWrite 0xFFFD hi).hostReset.pc = wordOf hi lo := by
  rw [State.busWrite_of_defaultBus hbus, State.busWrite_of_defaultBus]
  · have hwf' := Memory.wf_write hwf lo (a := 0xFFFC) (by decide)
    have hread : ∀ addr : Word, (((s.monitoredWrite 0xFFFC lo).monitoredWrite 0xFFFD hi).busRead addr) =
        ((s.mem.write 0xFFFC lo).write 0xFFFD hi).read addr.toNat := fun addr =>
      State.busRead_of_defaultBus (s := (s.monitoredWrite 0xFFFC lo).monitoredWrite 0xFFFD hi) hbus addr
    have hhi : ((s.mem.write 0xFFFC lo).write 0xFFFD hi).read 0xFFFD = hi := Memory.read_write_same hwf' _ _
    have hlo : ((s.mem.write 0xFFFC lo).write 0xFFFD hi).read 0xFFFC = lo := by
      rw [Memory.read_write_of_ne _ _ (by decide), Memory.read_write_same hwf]
    have hpc : ∀ t : State, t.hostReset.pc = wordOf (t.busRead 0xFFFD) (t.busRead 0xFFFC) := fun _ => rfl
    rw [hpc, hread, hread]
    exact congrArg₂ wordOf hhi hlo
  · exact hbus

/-- A load that succeeds boots when reset() leaves PC at the base address (R157). -/
theorem State.bootProgram_of_pc (s : State) {bytes : List Byte} {base : Word} {t : State}
    (hload : s.loadProgram bytes base = (t, .done)) (hpc : t.hostReset.pc = base) :
    s.bootProgram bytes base = (t.hostReset, .done) := by
  simp only [State.bootProgram, hload, hpc, if_true]

/-- Settles O49: an error ends the boot; else reset() reads the base address that the load has written to the vector. -/
theorem loadAndBoot : Obligations.LoadAndBoot := by
  intro s bytes base
  refine ⟨?empty, fun hne hover => ?overflow, fun hne hfits hbus hwf => ?boots⟩
  case empty =>
    rintro rfl
    rw [State.bootProgram, State.loadProgram_nil]
    rfl
  case overflow =>
    rw [State.bootProgram, s.loadProgram_of_overflow hne hover]
    rfl
  case boots =>
    have hstatus : Flags.reset.toByte = 0x24 := by decide
    have hbus' : (s.busWriteBytes base bytes).bus = defaultBus :=
      (congrArg State.bus (s.busWriteBytes_sameButStores base bytes)).trans hbus
    have hpc := State.hostReset_pc_of_vector hbus' (State.busWriteBytes_mem_wf hbus hwf base bytes) (low base) (high base)
    rw [← loByte_eq_low, ← hiByte_eq_high, wordOf_hiByte_loByte, loByte_eq_low, hiByte_eq_high] at hpc
    rw [s.bootProgram_of_pc (s.loadProgram_of_fits hne hfits) hpc]
    exact ⟨rfl, hpc, rfl, hstatus⟩

/-! ### The host's other actions (R152, R153) -/

theorem hostAct_pushInput (s : State) (b : Byte) :
    hostAct (.pushInput b) s =
      if s.inq.length < 1024 then .next ({ s with inq := s.inq ++ [b] }, .done) else .next (s, .queueFull) := by
  by_cases hroom : s.inq.length < Config.qcap
  · rw [hostAct, if_pos hroom, (enqueue_eq s.inq b).1 hroom]
    exact (if_pos hroom).symm
  · rw [hostAct, if_neg hroom]
    exact (if_neg hroom).symm

/-- Settles O50: each action by its definition; only `push_input` turns on the queue. -/
theorem hostActionEffects : Obligations.HostActionEffects := by
  intro s addr w b hz on
  exact ⟨rfl, rfl, rfl, rfl, rfl, rfl, rfl, rfl, rfl, rfl, hostAct_pushInput s b, rfl, rfl, rfl⟩

/-- No action but `reset` clears `halted`. -/
theorem halted_of_hostAct {s : State} (hs : s.halted = true) {act : HostAction} (hact : act ≠ .reset)
    {r : State × HostReply} (h : hostAct act s = .next r) : r.1.halted = true := by
  cases act
  case reset => exact absurd rfl hact
  case step =>
    rw [hostAct, hostStep, if_pos hs] at h
    cases h
  case run | pause | resume | injectIrq | injectNmi | readByte | setDebug | popOutput => cases h; exact hs
  case loadProgram bytes base =>
    cases h
    exact (congrArg State.halted (s.loadProgram_sameButStores bytes base)).trans hs
  case writeByte addr b =>
    cases h
    exact (congrArg State.halted (s.busWrite_sameButStores addr b)).trans hs
  case setPc | setFrequency | pushInput | snapshotRegisters =>
    rw [hostAct] at h
    split at h <;> cases h <;> exact hs

/-- Settles O51: the run loop by the two bits it looks at first; the host by its actions. -/
theorem haltedAndPausedCore : Obligations.HaltedAndPausedCore := by
  refine ⟨fun s => ⟨fun h => ?halted, fun h hp => ?paused⟩, fun s t act reply hs hact h => halted_of_hostAct hs hact h⟩
  case halted => rw [step, if_pos h]
  case paused =>
    rw [step, h, if_neg Bool.false_ne_true, if_pos hp]

end Sys2Proof.Machine
